-- ==== Sys2Proof/Word.lean ====
section
/-! DEFINITION. The two word types of CORE (spec 00_scope R6): 8-bit data, 16-bit addresses. -/

namespace Sys2Proof

/-- An 8-bit value: A, X, Y, P and every memory cell (00_scope R6). -/
abbrev Byte := BitVec 8

/-- A 16-bit value: PC, SP and every address (00_scope R6). -/
abbrev Word := BitVec 16

end Sys2Proof
end

