-- ==== Sys2Proof/Machine/Bits.lean ====
section
/-! DEFINITION. The notation of 00_scope R8 as functions: bytes of a word, `hi:lo`, zero and sign extension. -/

namespace Sys2Proof

/-- `hi:lo`, the word `hi * 256 + lo` (00_scope R8). -/
def wordOf (hi lo : Byte) : Word := hi ++ lo

/-- `w[7:0]` (00_scope R8). -/
def loByte (w : Word) : Byte := w.setWidth 8

/-- `w[15:8]` (00_scope R8). -/
def hiByte (w : Word) : Byte := w.extractLsb' 8 8

/-- `zext_16(b)` (00_scope R8). -/
def zext16 (b : Byte) : Word := b.setWidth 16

/-- `sext_16(b)`: `b + 0xFF00` if bit 7 of `b` is set, otherwise `b` (00_scope R8). -/
def sext16 (b : Byte) : Word := if b.msb then zext16 b + 0xFF00 else zext16 b

end Sys2Proof
end

