-- ==== Sys2Proof/Machine/Flags.lean ====
section
/-! DEFINITION. The status byte P (10_state R19 to R24) and the shared flag updater (40_execution R70). -/

namespace Sys2Proof.Machine

/-- The eight named bits of P (10_state R20). -/
inductive Flag where
  | c | z | i | d | b | u | v | n
  deriving DecidableEq, Repr

/-- The bit positions (10_state R20; 92 D3). UNVERIFIED, unsafe: the spec supplies them from general knowledge (log 10). -/
def Flag.bit : Flag → Nat
  | .c => 0
  | .z => 1
  | .i => 2
  | .d => 3
  | .b => 4
  | .u => 5
  | .v => 6
  | .n => 7

/-- Read one flag of a status byte. -/
def getFlag (f : Flag) (p : Byte) : Bool := p.getLsbD f.bit

/-- Write one flag of a status byte; the other seven bits stay. -/
def setFlag (f : Flag) (on : Bool) (p : Byte) : Byte :=
  if on then p ||| (1#8 <<< f.bit) else p &&& ~~~(1#8 <<< f.bit)

/-- `UpdateZN(r)` on the status byte (40_execution R70). -/
def updateZN (r : Byte) (p : Byte) : Byte := setFlag .n r.msb (setFlag .z (decide (r = 0x00)) p)

end Sys2Proof.Machine
end

