-- ==== Sys2Proof/Config.lean ====
section
/-! DEFINITION. The vocabulary of the opcode table (30_encoding R56, R57), and the parameters of 00_scope R7 that the spec
leaves OPEN: opaque constants, of whose values nothing can be proved. Machine/Params.lean gives the machine its parameters. -/

namespace Sys2Proof

/-- The 57 names of the opcode table's `mnemonic` field (30_encoding R56, R63); a name says nothing of the effect
(45_nop_unimplemented, warning). -/
inductive Mnemonic where
  | adc | and | asl | bcc | bcs | beq | bit | bmi | bne | bpl | brk | bvc | bvs | clc | cld | cli | clv | cmp | cpx
  | cpy | dec | dex | dey | eor | inc | inx | iny | jmp | jsr | lda | ldx | ldy | lsr | nop | ora | pha | php | pla
  | plp | rol | ror | rti | rts | sbc | sec | sed | sei | sta | stx | sty | tax | tay | tsx | txa | txs | tya
  | undefined
  deriving DecidableEq, Repr

/-- The 13 addressing modes (30_encoding R57). `none` is the mode of the implied and the undefined opcodes. -/
inductive Mode where
  | none | accumulator | immediate | relative | zeroPage | zeroPageX | zeroPageY
  | absolute | absoluteX | absoluteY | indirect | indirectX | indirectY
  deriving DecidableEq, Repr

/-- The optional cycle-modifier tag of a table entry (30_encoding R56). -/
inductive Modifier where
  | none | pageCrossed | branchTaken
  deriving DecidableEq, Repr

/-- Whether an opcode is implemented, recognized but unimplemented, or undefined (30_encoding R58 to R60). -/
inductive Kind where
  | implemented | unimplemented | undefined
  deriving DecidableEq, Repr

/-- One entry of OPTABLE (30_encoding R56). -/
structure OpEntry where
  mnemonic : Mnemonic
  mode : Mode
  size : Nat
  cycles : Nat
  modifier : Modifier
  kind : Kind
  deriving DecidableEq, Repr

/-- RESET_A, RESET_X, RESET_Y and RESET_P, which 00_scope R7 keeps as parameters (decision D4). -/
structure ResetValues where
  a : Byte
  x : Byte
  y : Byte
  p : Byte
  deriving DecidableEq, Repr

/-- INPUT_ADDR, an OPEN parameter: where `Step` writes the key byte (00_scope R7; 92 D18). No value is chosen: safe (log 2). -/
opaque Config.openInputAddr : Word

/-- FB_BASE, an OPEN parameter: the start of the framebuffer window (00_scope R7; 92 D18). No value is chosen: safe (log 3). -/
opaque Config.openFbBase : Word

/-- Which of its two values the OPEN parameter BRK_PUSH_OFFSET has (92 D8). No value is chosen: safe (log 4). -/
opaque Config.brkPushesThree : Bool

end Sys2Proof
end

