-- ==== Sys2Proof/Machine/OpTable.lean ====
section
/-! DEFINITION. OPTABLE (30_encoding R56, R63): 256 entries, one list of 16 per high nibble of the opcode byte, as the
map at the end of R63 lays them out. UNVERIFIED, unsafe where the reference's table differs: the spec supplies the
values from the standard NMOS 6502 table (92 D1, D2; log 9). -/

namespace Sys2Proof

/-- The explicit "undefined" entry (30_encoding R60). It has no meaningful size, cycles or modifier: the zeros stand
for "none" and no step reads them. DESIGN CHOICE, safe (log 16). -/
def OpEntry.undefinedEntry : OpEntry := ⟨.undefined, .none, 0, 0, .none, .undefined⟩

/-- Entries 0x00 to 0x0F. -/
def opRow0 : List OpEntry :=
  [⟨.brk, .none, 1, 7, .none, .implemented⟩,
   ⟨.ora, .indirectX, 2, 6, .none, .unimplemented⟩,
   .undefinedEntry,
   .undefinedEntry,
   .undefinedEntry,
   ⟨.ora, .zeroPage, 2, 3, .none, .unimplemented⟩,
   ⟨.asl, .zeroPage, 2, 5, .none, .implemented⟩,
   .undefinedEntry,
   ⟨.php, .none, 1, 3, .none, .unimplemented⟩,
   ⟨.ora, .immediate, 2, 2, .none, .unimplemented⟩,
   ⟨.asl, .accumulator, 1, 2, .none, .implemented⟩,
   .undefinedEntry,
   .undefinedEntry,
   ⟨.ora, .absolute, 3, 4, .none, .unimplemented⟩,
   ⟨.asl, .absolute, 3, 6, .none, .implemented⟩,
   .undefinedEntry]

/-- Entries 0x10 to 0x1F. -/
def opRow1 : List OpEntry :=
  [⟨.bpl, .relative, 2, 2, .branchTaken, .implemented⟩,
   ⟨.ora, .indirectY, 2, 5, .pageCrossed, .unimplemented⟩,
   .undefinedEntry,
   .undefinedEntry,
   .undefinedEntry,
   ⟨.ora, .zeroPageX, 2, 4, .none, .unimplemented⟩,
   ⟨.asl, .zeroPageX, 2, 6, .none, .implemented⟩,
   .undefinedEntry,
   ⟨.clc, .none, 1, 2, .none, .unimplemented⟩,
   ⟨.ora, .absoluteY, 3, 4, .pageCrossed, .unimplemented⟩,
   .undefinedEntry,
   .undefinedEntry,
   .undefinedEntry,
   ⟨.ora, .absoluteX, 3, 4, .pageCrossed, .unimplemented⟩,
   ⟨.asl, .absoluteX, 3, 7, .none, .implemented⟩,
   .undefinedEntry]

/-- Entries 0x20 to 0x2F. -/
def opRow2 : List OpEntry :=
  [⟨.jsr, .absolute, 3, 6, .none, .unimplemented⟩,
   ⟨.and, .indirectX, 2, 6, .none, .implemented⟩,
   .undefinedEntry,
   .undefinedEntry,
   ⟨.bit, .zeroPage, 2, 3, .none, .unimplemented⟩,
   ⟨.and, .zeroPage, 2, 3, .none, .implemented⟩,
   ⟨.rol, .zeroPage, 2, 5, .none, .unimplemented⟩,
   .undefinedEntry,
   ⟨.plp, .none, 1, 4, .none, .unimplemented⟩,
   ⟨.and, .immediate, 2, 2, .none, .implemented⟩,
   ⟨.rol, .accumulator, 1, 2, .none, .unimplemented⟩,
   .undefinedEntry,
   ⟨.bit, .absolute, 3, 4, .none, .unimplemented⟩,
   ⟨.and, .absolute, 3, 4, .none, .implemented⟩,
   ⟨.rol, .absolute, 3, 6, .none, .unimplemented⟩,
   .undefinedEntry]

/-- Entries 0x30 to 0x3F. -/
def opRow3 : List OpEntry :=
  [⟨.bmi, .relative, 2, 2, .branchTaken, .implemented⟩,
   ⟨.and, .indirectY, 2, 5, .pageCrossed, .implemented⟩,
   .undefinedEntry,
   .undefinedEntry,
   .undefinedEntry,
   ⟨.and, .zeroPageX, 2, 4, .none, .implemented⟩,
   ⟨.rol, .zeroPageX, 2, 6, .none, .unimplemented⟩,
   .undefinedEntry,
   ⟨.sec, .none, 1, 2, .none, .unimplemented⟩,
   ⟨.and, .absoluteY, 3, 4, .pageCrossed, .implemented⟩,
   .undefinedEntry,
   .undefinedEntry,
   .undefinedEntry,
   ⟨.and, .absoluteX, 3, 4, .pageCrossed, .implemented⟩,
   ⟨.rol, .absoluteX, 3, 7, .none, .unimplemented⟩,
   .undefinedEntry]

/-- Entries 0x40 to 0x4F. -/
def opRow4 : List OpEntry :=
  [⟨.rti, .none, 1, 6, .none, .unimplemented⟩,
   ⟨.eor, .indirectX, 2, 6, .none, .unimplemented⟩,
   .undefinedEntry,
   .undefinedEntry,
   .undefinedEntry,
   ⟨.eor, .zeroPage, 2, 3, .none, .unimplemented⟩,
   ⟨.lsr, .zeroPage, 2, 5, .none, .unimplemented⟩,
   .undefinedEntry,
   ⟨.pha, .none, 1, 3, .none, .unimplemented⟩,
   ⟨.eor, .immediate, 2, 2, .none, .unimplemented⟩,
   ⟨.lsr, .accumulator, 1, 2, .none, .unimplemented⟩,
   .undefinedEntry,
   ⟨.jmp, .absolute, 3, 3, .none, .unimplemented⟩,
   ⟨.eor, .absolute, 3, 4, .none, .unimplemented⟩,
   ⟨.lsr, .absolute, 3, 6, .none, .unimplemented⟩,
   .undefinedEntry]

/-- Entries 0x50 to 0x5F. -/
def opRow5 : List OpEntry :=
  [⟨.bvc, .relative, 2, 2, .branchTaken, .implemented⟩,
   ⟨.eor, .indirectY, 2, 5, .pageCrossed, .unimplemented⟩,
   .undefinedEntry,
   .undefinedEntry,
   .undefinedEntry,
   ⟨.eor, .zeroPageX, 2, 4, .none, .unimplemented⟩,
   ⟨.lsr, .zeroPageX, 2, 6, .none, .unimplemented⟩,
   .undefinedEntry,
   ⟨.cli, .none, 1, 2, .none, .unimplemented⟩,
   ⟨.eor, .absoluteY, 3, 4, .pageCrossed, .unimplemented⟩,
   .undefinedEntry,
   .undefinedEntry,
   .undefinedEntry,
   ⟨.eor, .absoluteX, 3, 4, .pageCrossed, .unimplemented⟩,
   ⟨.lsr, .absoluteX, 3, 7, .none, .unimplemented⟩,
   .undefinedEntry]

/-- Entries 0x60 to 0x6F. -/
def opRow6 : List OpEntry :=
  [⟨.rts, .none, 1, 6, .none, .unimplemented⟩,
   ⟨.adc, .indirectX, 2, 6, .none, .unimplemented⟩,
   .undefinedEntry,
   .undefinedEntry,
   .undefinedEntry,
   ⟨.adc, .zeroPage, 2, 3, .none, .unimplemented⟩,
   ⟨.ror, .zeroPage, 2, 5, .none, .unimplemented⟩,
   .undefinedEntry,
   ⟨.pla, .none, 1, 4, .none, .unimplemented⟩,
   ⟨.adc, .immediate, 2, 2, .none, .unimplemented⟩,
   ⟨.ror, .accumulator, 1, 2, .none, .unimplemented⟩,
   .undefinedEntry,
   ⟨.jmp, .indirect, 3, 5, .none, .unimplemented⟩,
   ⟨.adc, .absolute, 3, 4, .none, .unimplemented⟩,
   ⟨.ror, .absolute, 3, 6, .none, .unimplemented⟩,
   .undefinedEntry]

/-- Entries 0x70 to 0x7F. -/
def opRow7 : List OpEntry :=
  [⟨.bvs, .relative, 2, 2, .branchTaken, .implemented⟩,
   ⟨.adc, .indirectY, 2, 5, .pageCrossed, .unimplemented⟩,
   .undefinedEntry,
   .undefinedEntry,
   .undefinedEntry,
   ⟨.adc, .zeroPageX, 2, 4, .none, .unimplemented⟩,
   ⟨.ror, .zeroPageX, 2, 6, .none, .unimplemented⟩,
   .undefinedEntry,
   ⟨.sei, .none, 1, 2, .none, .unimplemented⟩,
   ⟨.adc, .absoluteY, 3, 4, .pageCrossed, .unimplemented⟩,
   .undefinedEntry,
   .undefinedEntry,
   .undefinedEntry,
   ⟨.adc, .absoluteX, 3, 4, .pageCrossed, .unimplemented⟩,
   ⟨.ror, .absoluteX, 3, 7, .none, .unimplemented⟩,
   .undefinedEntry]

/-- Entries 0x80 to 0x8F. -/
def opRow8 : List OpEntry :=
  [.undefinedEntry,
   ⟨.sta, .indirectX, 2, 6, .none, .unimplemented⟩,
   .undefinedEntry,
   .undefinedEntry,
   ⟨.sty, .zeroPage, 2, 3, .none, .unimplemented⟩,
   ⟨.sta, .zeroPage, 2, 3, .none, .unimplemented⟩,
   ⟨.stx, .zeroPage, 2, 3, .none, .unimplemented⟩,
   .undefinedEntry,
   ⟨.dey, .none, 1, 2, .none, .unimplemented⟩,
   .undefinedEntry,
   ⟨.txa, .none, 1, 2, .none, .implemented⟩,
   .undefinedEntry,
   ⟨.sty, .absolute, 3, 4, .none, .unimplemented⟩,
   ⟨.sta, .absolute, 3, 4, .none, .unimplemented⟩,
   ⟨.stx, .absolute, 3, 4, .none, .unimplemented⟩,
   .undefinedEntry]

/-- Entries 0x90 to 0x9F. -/
def opRow9 : List OpEntry :=
  [⟨.bcc, .relative, 2, 2, .branchTaken, .implemented⟩,
   ⟨.sta, .indirectY, 2, 6, .none, .unimplemented⟩,
   .undefinedEntry,
   .undefinedEntry,
   ⟨.sty, .zeroPageX, 2, 4, .none, .unimplemented⟩,
   ⟨.sta, .zeroPageX, 2, 4, .none, .unimplemented⟩,
   ⟨.stx, .zeroPageY, 2, 4, .none, .unimplemented⟩,
   .undefinedEntry,
   ⟨.tya, .none, 1, 2, .none, .implemented⟩,
   ⟨.sta, .absoluteY, 3, 5, .none, .unimplemented⟩,
   ⟨.txs, .none, 1, 2, .none, .implemented⟩,
   .undefinedEntry,
   .undefinedEntry,
   ⟨.sta, .absoluteX, 3, 5, .none, .unimplemented⟩,
   .undefinedEntry,
   .undefinedEntry]

/-- Entries 0xA0 to 0xAF. -/
def opRowA : List OpEntry :=
  [⟨.ldy, .immediate, 2, 2, .none, .unimplemented⟩,
   ⟨.lda, .indirectX, 2, 6, .none, .implemented⟩,
   ⟨.ldx, .immediate, 2, 2, .none, .unimplemented⟩,
   .undefinedEntry,
   ⟨.ldy, .zeroPage, 2, 3, .none, .unimplemented⟩,
   ⟨.lda, .zeroPage, 2, 3, .none, .implemented⟩,
   ⟨.ldx, .zeroPage, 2, 3, .none, .unimplemented⟩,
   .undefinedEntry,
   ⟨.tay, .none, 1, 2, .none, .implemented⟩,
   ⟨.lda, .immediate, 2, 2, .none, .implemented⟩,
   ⟨.tax, .none, 1, 2, .none, .implemented⟩,
   .undefinedEntry,
   ⟨.ldy, .absolute, 3, 4, .none, .unimplemented⟩,
   ⟨.lda, .absolute, 3, 4, .none, .implemented⟩,
   ⟨.ldx, .absolute, 3, 4, .none, .unimplemented⟩,
   .undefinedEntry]

/-- Entries 0xB0 to 0xBF. -/
def opRowB : List OpEntry :=
  [⟨.bcs, .relative, 2, 2, .branchTaken, .implemented⟩,
   ⟨.lda, .indirectY, 2, 5, .pageCrossed, .implemented⟩,
   .undefinedEntry,
   .undefinedEntry,
   ⟨.ldy, .zeroPageX, 2, 4, .none, .unimplemented⟩,
   ⟨.lda, .zeroPageX, 2, 4, .none, .implemented⟩,
   ⟨.ldx, .zeroPageY, 2, 4, .none, .unimplemented⟩,
   .undefinedEntry,
   ⟨.clv, .none, 1, 2, .none, .unimplemented⟩,
   ⟨.lda, .absoluteY, 3, 4, .pageCrossed, .implemented⟩,
   ⟨.tsx, .none, 1, 2, .none, .implemented⟩,
   .undefinedEntry,
   ⟨.ldy, .absoluteX, 3, 4, .pageCrossed, .unimplemented⟩,
   ⟨.lda, .absoluteX, 3, 4, .pageCrossed, .implemented⟩,
   ⟨.ldx, .absoluteY, 3, 4, .pageCrossed, .unimplemented⟩,
   .undefinedEntry]

/-- Entries 0xC0 to 0xCF. -/
def opRowC : List OpEntry :=
  [⟨.cpy, .immediate, 2, 2, .none, .unimplemented⟩,
   ⟨.cmp, .indirectX, 2, 6, .none, .unimplemented⟩,
   .undefinedEntry,
   .undefinedEntry,
   ⟨.cpy, .zeroPage, 2, 3, .none, .unimplemented⟩,
   ⟨.cmp, .zeroPage, 2, 3, .none, .unimplemented⟩,
   ⟨.dec, .zeroPage, 2, 5, .none, .unimplemented⟩,
   .undefinedEntry,
   ⟨.iny, .none, 1, 2, .none, .unimplemented⟩,
   ⟨.cmp, .immediate, 2, 2, .none, .unimplemented⟩,
   ⟨.dex, .none, 1, 2, .none, .implemented⟩,
   .undefinedEntry,
   ⟨.cpy, .absolute, 3, 4, .none, .unimplemented⟩,
   ⟨.cmp, .absolute, 3, 4, .none, .unimplemented⟩,
   ⟨.dec, .absolute, 3, 6, .none, .unimplemented⟩,
   .undefinedEntry]

/-- Entries 0xD0 to 0xDF. -/
def opRowD : List OpEntry :=
  [⟨.bne, .relative, 2, 2, .branchTaken, .implemented⟩,
   ⟨.cmp, .indirectY, 2, 5, .pageCrossed, .unimplemented⟩,
   .undefinedEntry,
   .undefinedEntry,
   .undefinedEntry,
   ⟨.cmp, .zeroPageX, 2, 4, .none, .unimplemented⟩,
   ⟨.dec, .zeroPageX, 2, 6, .none, .unimplemented⟩,
   .undefinedEntry,
   ⟨.cld, .none, 1, 2, .none, .unimplemented⟩,
   ⟨.cmp, .absoluteY, 3, 4, .pageCrossed, .unimplemented⟩,
   .undefinedEntry,
   .undefinedEntry,
   .undefinedEntry,
   ⟨.cmp, .absoluteX, 3, 4, .pageCrossed, .unimplemented⟩,
   ⟨.dec, .absoluteX, 3, 7, .none, .unimplemented⟩,
   .undefinedEntry]

/-- Entries 0xE0 to 0xEF. -/
def opRowE : List OpEntry :=
  [⟨.cpx, .immediate, 2, 2, .none, .unimplemented⟩,
   ⟨.sbc, .indirectX, 2, 6, .none, .unimplemented⟩,
   .undefinedEntry,
   .undefinedEntry,
   ⟨.cpx, .zeroPage, 2, 3, .none, .unimplemented⟩,
   ⟨.sbc, .zeroPage, 2, 3, .none, .unimplemented⟩,
   ⟨.inc, .zeroPage, 2, 5, .none, .unimplemented⟩,
   .undefinedEntry,
   ⟨.inx, .none, 1, 2, .none, .implemented⟩,
   ⟨.sbc, .immediate, 2, 2, .none, .unimplemented⟩,
   ⟨.nop, .none, 1, 2, .none, .implemented⟩,
   .undefinedEntry,
   ⟨.cpx, .absolute, 3, 4, .none, .unimplemented⟩,
   ⟨.sbc, .absolute, 3, 4, .none, .unimplemented⟩,
   ⟨.inc, .absolute, 3, 6, .none, .unimplemented⟩,
   .undefinedEntry]

/-- Entries 0xF0 to 0xFF. -/
def opRowF : List OpEntry :=
  [⟨.beq, .relative, 2, 2, .branchTaken, .implemented⟩,
   ⟨.sbc, .indirectY, 2, 5, .pageCrossed, .unimplemented⟩,
   .undefinedEntry,
   .undefinedEntry,
   .undefinedEntry,
   ⟨.sbc, .zeroPageX, 2, 4, .none, .unimplemented⟩,
   ⟨.inc, .zeroPageX, 2, 6, .none, .unimplemented⟩,
   .undefinedEntry,
   ⟨.sed, .none, 1, 2, .none, .unimplemented⟩,
   ⟨.sbc, .absoluteY, 3, 4, .pageCrossed, .unimplemented⟩,
   .undefinedEntry,
   .undefinedEntry,
   .undefinedEntry,
   ⟨.sbc, .absoluteX, 3, 4, .pageCrossed, .unimplemented⟩,
   ⟨.inc, .absoluteX, 3, 7, .none, .unimplemented⟩,
   .undefinedEntry]

/-- The 16 rows of OPTABLE. -/
def opRows : List (List OpEntry) :=
  [opRow0, opRow1, opRow2, opRow3, opRow4, opRow5, opRow6, opRow7, opRow8, opRow9, opRowA, opRowB, opRowC, opRowD, opRowE, opRowF]

/-- `OPTABLE[op]` (30_encoding R56). -/
def opEntry (op : Byte) : OpEntry :=
  (opRows.getD (op.toNat / 16) []).getD (op.toNat % 16) OpEntry.undefinedEntry

end Sys2Proof
end

