-- ==== Sys2Proof/Machine/Memory.lean ====
section
/-! DEFINITION. MEM (20_memory R34 to R41): a sorted list of the cells that differ from what an unlisted address
reads as, with the access primitives MemRead and MemWrite. -/

namespace Sys2Proof.Machine

/-- MEM as plain data: (address, byte) pairs; see `Memory.wf` for its canonical form. -/
abbrev Memory := List Host.Cell

/-- What an address that is not listed reads as. Any 65,536 bytes can be written as a `Memory`, so this is a choice
of representation; it is a claim only about `State.reset`, whose memory lists nothing. DESIGN CHOICE, unsafe (log 1). -/
def Memory.unlisted : Byte := 0x00

/-- The byte listed for a numeric address. -/
def Memory.lookup : Memory → Nat → Byte
  | [], _ => Memory.unlisted
  | (k, v) :: rest, a => if k = a then v else Memory.lookup rest a

/-- `MemRead(addr, 1)` (20_memory R36). -/
def Memory.read (m : Memory) (addr : Word) : Byte := Memory.lookup m addr.toNat

/-- The cells of `m` but those of one address. -/
def Memory.erase : Memory → Nat → Memory
  | [], _ => []
  | (k, v) :: rest, a => if k = a then Memory.erase rest a else (k, v) :: Memory.erase rest a

/-- Insert a cell before the first cell of a higher address. -/
def Memory.insert : Memory → Nat → Byte → Memory
  | [], a, b => [(a, b)]
  | (k, v) :: rest, a, b => if a < k then (a, b) :: (k, v) :: rest else (k, v) :: Memory.insert rest a b

/-- `MemWrite(addr, 1, v)` (20_memory R37); writing what an unlisted address reads as removes the cell. -/
def Memory.write (m : Memory) (addr : Word) (v : Byte) : Memory :=
  if v = Memory.unlisted then Memory.erase m addr.toNat
  else Memory.insert (Memory.erase m addr.toNat) addr.toNat v

/-- `MemRead(addr, 2)`: little-endian, the high byte from `(addr + 1) mod 2^16` (20_memory R39). -/
def Memory.readWord (m : Memory) (addr : Word) : Word :=
  wordOf (Memory.read m (addr + 1)) (Memory.read m addr)

/-- `MemWrite(addr, 2, w)`: `w[7:0]` to `addr`, then `w[15:8]` to `(addr + 1) mod 2^16` (20_memory R40). -/
def Memory.writeWord (m : Memory) (addr : Word) (w : Word) : Memory :=
  Memory.write (Memory.write m addr (loByte w)) (addr + 1) (hiByte w)

/-- Write consecutive bytes upwards from `addr`. -/
def Memory.writeBytes : Memory → Word → List Byte → Memory
  | m, _, [] => m
  | m, addr, b :: rest => Memory.writeBytes (Memory.write m addr b) (addr + 1) rest

/-- Every listed address is at least `low` and rises strictly, is below 65,536, and its byte is not the unlisted one. -/
def Memory.wfFrom : Nat → Memory → Bool
  | _, [] => true
  | low, (k, v) :: rest =>
    decide (low ≤ k) && decide (k < 65536) && decide (v ≠ Memory.unlisted) && Memory.wfFrom (k + 1) rest

/-- The canonical form of MEM: equal memories are equal lists. -/
def Memory.wf (m : Memory) : Bool := Memory.wfFrom 0 m

end Sys2Proof.Machine
end

