-- ==== Sys2Proof/Machine/Params.lean ====
section
/-! DEFINITION. The parameters of 00_scope R7 as the machine uses them. Those the spec leaves OPEN are the opaque constants
of Config. -/

namespace Sys2Proof

/-- RESET_VECTOR (00_scope R7; 20_memory R45). -/
def Config.resetVector : Word := 0xFFFC

/-- BRK_VECTOR (00_scope R7; 20_memory R45). -/
def Config.brkVector : Word := 0xFFFE

/-- SP_RESET (00_scope R7). -/
def Config.spReset : Word := 0x01FF

/-- The decided values of the reset parameters, all 0x00 (10_state R33; 92 D4). DESIGN CHOICE of the spec, unsafe (log 8). -/
def Config.resetValues : ResetValues := ⟨0x00, 0x00, 0x00, 0x00⟩

/-- INPUT_ADDR, where `Step` writes the key byte: OPEN (00_scope R7; 92 D18; log 2). -/
def Config.inputAddr : Word := Config.openInputAddr

/-- FB_BASE, the start of the framebuffer window: OPEN (00_scope R7; 92 D18; log 3). -/
def Config.fbBase : Word := Config.openFbBase

/-- BRK_PUSH_OFFSET, 2 or 3 (00_scope R7; 92 D8; log 4). -/
def Config.brkPushOffset : Word := if Config.brkPushesThree then 3 else 2

end Sys2Proof
end

