-- ==== Sys2Proof/Machine/State.lean ====
section
/-! DEFINITION. The state of CORE (10_state R15), the reasons a step can stop, and the state right after reset (10_state R33). -/

namespace Sys2Proof.Machine

/-- An opcode byte and the address it was fetched from: what DecodeError and the Unimplemented event record
(60_exceptions R157, R167). -/
structure OpAt where
  op : Byte
  addr : Word
  deriving DecidableEq, Repr

/-- CORE's architectural state (10_state R15), then the model's own two fields: the host's coming inputs and the
diagnostic output (logs 5 and 6). -/
@[ext]
structure State where
  /-- accumulator (10_state R16) -/
  a : Byte
  /-- index register X (10_state R17) -/
  x : Byte
  /-- index register Y (10_state R18) -/
  y : Byte
  /-- status register P, one byte, every bit stored (10_state R19, R20) -/
  p : Byte
  /-- 16-bit stack pointer (10_state R26) -/
  sp : Word
  /-- program counter (10_state R28) -/
  pc : Word
  /-- CYC, the unbounded cycle counter (10_state R30) -/
  cyc : Nat
  /-- FAULT, the decode-error latch (10_state R31) -/
  fault : Option OpAt
  /-- MEM (20_memory R34) -/
  mem : List Host.Cell
  /-- The model's own: the `key` argument of each coming `Step(key)`, the next one first; past its end the key is
  `none` (40_execution R65, R67). DESIGN CHOICE, safe for all statements but those about `State.reset` (log 5). -/
  keys : List (Option Byte)
  /-- The model's own: the Unimplemented events emitted so far, newest first (60_exceptions R167). Nothing in CORE
  reads it. DESIGN CHOICE, safe (log 6). -/
  diag : List OpAt
  deriving DecidableEq, Repr

/-- Why a step stops the machine. -/
inductive Fault where
  /-- Raised by a step asked of a core whose latch FAULT is set: nothing changes and the latched opcode and address
  are returned (40_execution R66; 60_exceptions R159). The step that RAISES DecodeError is a next state in which the
  latch is set (log 7). Safe: the hardware does nothing either. -/
  | decodeError (op : Byte) (addr : Word)
  deriving DecidableEq, Repr

/-- Why an operation is refused. -/
inductive Refusal where
  /-- An arm of `exec` without a meaning would answer this, with the table's mnemonic. No arm does. Safe. -/
  | notModelled (mnemonic : String)
  /-- The host operation `Load` answers this for an image that runs past 0xFFFF: the spec's own outcome
  (60_exceptions R170; 92 D19). No step answers it. Safe. -/
  | imageTooLong
  deriving DecidableEq, Repr

/-- What an instruction and a step answer. -/
abbrev Result := Host.Outcome State Fault Refusal

/-- `Reset()` with the four register parameters left free (70_reset R177; 00_scope R7): MEM is unchanged, and so are
the host's coming keys and the events already emitted. -/
def State.resetTo (v : ResetValues) (s : State) : State :=
  { s with
    a := v.a
    x := v.x
    y := v.y
    p := v.p
    sp := Config.spReset
    pc := Memory.readWord s.mem Config.resetVector
    cyc := 0
    fault := none }

/-- The machine right after power-on and a `Reset()`, INIT_MEM being `m` (70_reset R178). -/
def State.powerOn (m : Memory) : State :=
  State.resetTo Config.resetValues
    { a := 0, x := 0, y := 0, p := 0, sp := 0, pc := 0, cyc := 0, fault := none, mem := m, keys := [], diag := [] }

/-- The machine right after reset (10_state R33), with nothing listed in memory (log 1), no key pending (log 5) and
no event emitted (log 6). -/
def State.reset : State := State.powerOn []

end Sys2Proof.Machine
end

