-- ==== Sys2Proof/Machine/Ops.lean ====
section
/-! DEFINITION. The named operations on the state: register and memory writes, Push, the frame of a step (PC advance
and cycle accounting), taking DecodeError, and taking the BRK trap. There is no return from a trap (60_exceptions R165):
RTI is one of the no-ops. -/

namespace Sys2Proof.Machine

/-- `A <- v`. -/
def State.setA (s : State) (v : Byte) : State := { s with a := v }

/-- `X <- v`. -/
def State.setX (s : State) (v : Byte) : State := { s with x := v }

/-- `Y <- v`. -/
def State.setY (s : State) (v : Byte) : State := { s with y := v }

/-- `P <- v`. -/
def State.setP (s : State) (v : Byte) : State := { s with p := v }

/-- `SP <- v`. -/
def State.setSP (s : State) (v : Word) : State := { s with sp := v }

/-- `PC <- v`. -/
def State.setPC (s : State) (v : Word) : State := { s with pc := v }

/-- `CYC <- CYC + n`. -/
def State.addCyc (s : State) (n : Nat) : State := { s with cyc := s.cyc + n }

/-- `FAULT <- v`. -/
def State.setFault (s : State) (v : Option OpAt) : State := { s with fault := v }

/-- Replace MEM. -/
def State.setMem (s : State) (m : Memory) : State := { s with mem := m }

/-- Replace the host's coming keys. -/
def State.setKeys (s : State) (ks : List (Option Byte)) : State := { s with keys := ks }

/-- `emit Unimplemented(op, opaddr)` (40_execution R72; 60_exceptions R167). -/
def State.emit (s : State) (e : OpAt) : State := { s with diag := e :: s.diag }

/-- `MemWrite(addr, 1, v)` on the state (20_memory R37). -/
def State.writeByte (s : State) (addr : Word) (v : Byte) : State := s.setMem (Memory.write s.mem addr v)

/-- `UpdateZN(r)` on the state (40_execution R70). -/
def State.updateZN (s : State) (r : Byte) : State := s.setP (Machine.updateZN r s.p)

/-- `Push(v)`: write at the full 16-bit SP, then decrement it mod 2^16 (10_state R25). -/
def State.push (s : State) (v : Byte) : State := (s.writeByte s.sp v).setSP (s.sp - 1)

/-- What a handler leaves (40_execution R65, R71): the state, whether it wrote PC, and the cycles it added. -/
structure Effect where
  state : State
  moved : Bool
  extra : Nat

/-- The end of a step: PC skips the operand bytes unless the handler wrote PC, and CYC grows by the base cost and the
handler's charges (40_execution R73, R74). -/
def finishStep (e : OpEntry) (r : Effect) : State :=
  State.addCyc
    (if r.moved then r.state else r.state.setPC (r.state.pc + BitVec.ofNat 16 (e.size - 1)))
    (e.cycles + r.extra)

/-- Execute an implemented opcode standing at PC: PC moves past the opcode byte, the handler runs with the table's
entry, and the step ends (40_execution R69, R71, R73, R74). -/
def runHandler (op : Byte) (handler : OpEntry → State → Effect) (s : State) : Result :=
  .next (finishStep (opEntry op) (handler (opEntry op) (s.setPC (s.pc + 1))))

/-- Execute a recognized but unimplemented opcode standing at PC (40_execution R72; 45_nop R119): the event, the PC
advance and the base cost, nothing else. -/
def runUnimplemented (op : Byte) (s : State) : Result :=
  .next (finishStep (opEntry op) ⟨(s.setPC (s.pc + 1)).emit ⟨op, s.pc⟩, false, 0⟩)

/-- Take DecodeError for the undefined byte `op` standing at PC: FAULT is latched and nothing else changes
(60_exceptions R157, R158). -/
def raiseDecodeError (op : Byte) (s : State) : Result := .next (s.setFault (some ⟨op, s.pc⟩))

/-- Take the software trap of the BRK at `opaddr`: P.B is set, the return address `opaddr + offset` is pushed high
byte first, then P, and PC is loaded from the BRK vector (44_control R118; 60_exceptions R163). -/
def enterTrap (opaddr offset : Word) (s : State) : State :=
  let s := s.setP (setFlag .b true s.p)
  let s := s.push (hiByte (opaddr + offset))
  let s := s.push (loByte (opaddr + offset))
  let s := s.push s.p
  s.setPC (Memory.readWord s.mem Config.brkVector)

end Sys2Proof.Machine
end

