-- ==== Sys2Proof/Machine/Operands.lean ====
section
/-! DEFINITION. Operand resolution for every addressing mode (41_addressing R81 to R94), the page-crossing charge
(R95), and operand access (R96).

Each mode is a function of the operand bytes the instruction carries; `resolve` is the spec's `Resolve(mode)`, which
reads those bytes at PC = opaddr + 1. The meanings use the first: the operand bytes are read before a handler writes
anything (20_memory R51). DEDUCED, safe (log 13). -/

namespace Sys2Proof.Machine

/-- Where an operand lives: the accumulator or a memory cell (00_scope R10). -/
inductive Location where
  | accumulator
  | address (a : Word)
  deriving DecidableEq, Repr

/-- An operand of 00_scope R10; `none` is its variant NoOperand. -/
abbrev Operand := Option Location

/-- Whether an index addition carries out of the low address byte (41_addressing R90). -/
def crosses (lo index : Byte) : Bool := decide (lo.toNat + index.toNat > 0xFF)

/-- ZeroPage (41_addressing R86). -/
def atZeroPage (z : Byte) (_ : State) : Location × Bool := (.address (zext16 z), false)

/-- ZeroPageX: the sum wraps in page 0 (41_addressing R87). -/
def atZeroPageX (z : Byte) (s : State) : Location × Bool := (.address (zext16 (z + s.x)), false)

/-- ZeroPageY: the sum wraps in page 0 (41_addressing R88). -/
def atZeroPageY (z : Byte) (s : State) : Location × Bool := (.address (zext16 (z + s.y)), false)

/-- Absolute (41_addressing R89). -/
def atAbsolute (w : Word) (_ : State) : Location × Bool := (.address w, false)

/-- AbsoluteX: the cross is that of the unresolved low byte (41_addressing R90). -/
def atAbsoluteX (w : Word) (s : State) : Location × Bool := (.address (w + zext16 s.x), crosses (loByte w) s.x)

/-- AbsoluteY (41_addressing R91). -/
def atAbsoluteY (w : Word) (s : State) : Location × Bool := (.address (w + zext16 s.y), crosses (loByte w) s.y)

/-- Indirect: a plain word read of the pointer (41_addressing R92). -/
def atIndirect (w : Word) (s : State) : Location × Bool := (.address (Memory.readWord s.mem w), false)

/-- The word at a zero-page pointer, both bytes read within page 0 (41_addressing R93, R94). -/
def zeroPagePointer (q : Byte) (s : State) : Word :=
  wordOf (Memory.read s.mem (zext16 (q + 1))) (Memory.read s.mem (zext16 q))

/-- IndirectX (41_addressing R93). -/
def atIndirectX (z : Byte) (s : State) : Location × Bool := (.address (zeroPagePointer (z + s.x) s), false)

/-- IndirectY: the pointer is read first, then indexed by Y (41_addressing R94). -/
def atIndirectY (z : Byte) (s : State) : Location × Bool :=
  (.address (zeroPagePointer z s + zext16 s.y), crosses (loByte (zeroPagePointer z s)) s.y)

/-- A location with no page crossing, as an operand. -/
def asOperand (r : Location × Bool) : Operand × Bool := (some r.1, r.2)

/-- `Resolve(mode)` with PC = opaddr + 1 (41_addressing R81 to R94). -/
def resolve (mode : Mode) (s : State) : Operand × Bool :=
  match mode with
  | .none => (none, false)
  | .accumulator => (some .accumulator, false)
  | .immediate => (some (.address s.pc), false)
  | .relative => (some (.address s.pc), false)
  | .zeroPage => asOperand (atZeroPage (Memory.read s.mem s.pc) s)
  | .zeroPageX => asOperand (atZeroPageX (Memory.read s.mem s.pc) s)
  | .zeroPageY => asOperand (atZeroPageY (Memory.read s.mem s.pc) s)
  | .absolute => asOperand (atAbsolute (Memory.readWord s.mem s.pc) s)
  | .absoluteX => asOperand (atAbsoluteX (Memory.readWord s.mem s.pc) s)
  | .absoluteY => asOperand (atAbsoluteY (Memory.readWord s.mem s.pc) s)
  | .indirect => asOperand (atIndirect (Memory.readWord s.mem s.pc) s)
  | .indirectX => asOperand (atIndirectX (Memory.read s.mem s.pc) s)
  | .indirectY => asOperand (atIndirectY (Memory.read s.mem s.pc) s)

/-- `Load(opnd)` (41_addressing R96); never asked of NoOperand. -/
def load (l : Location) (s : State) : Byte :=
  match l with
  | .accumulator => s.a
  | .address a => Memory.read s.mem a

/-- `Store(opnd, v)` (41_addressing R96); never asked of NoOperand. -/
def store (l : Location) (v : Byte) (s : State) : State :=
  match l with
  | .accumulator => s.setA v
  | .address a => s.writeByte a v

/-- The page-crossing charge: one cycle if the index crossed and the entry carries `page_crossed` (41_addressing R95). -/
def pageCharge (e : OpEntry) (cross : Bool) : Nat := if cross && decide (e.modifier = .pageCrossed) then 1 else 0

/-- A handler that works on the immediate byte `v` of its instruction (41_addressing R84). -/
def immediateForm (v : Byte) (work : Byte → State → State) (_ : OpEntry) (s : State) : Effect := ⟨work v s, false, 0⟩

/-- A handler that works on the byte at a resolved location, with the page-crossing charge (41_addressing R95, R96). -/
def readForm (place : State → Location × Bool) (work : Byte → State → State) (e : OpEntry) (s : State) : Effect :=
  ⟨work (load (place s).1 s) s, false, pageCharge e (place s).2⟩

/-- A handler that modifies a resolved location and takes no page-crossing charge (42_load_logic_shift R99). -/
def modifyForm (place : State → Location × Bool) (work : Location → State → State) (_ : OpEntry) (s : State) : Effect :=
  ⟨work (place s).1 s, false, 0⟩

/-- A handler of mode None that neither writes PC nor adds cycles (43_register_ops). -/
def impliedForm (work : State → State) (_ : OpEntry) (s : State) : Effect := ⟨work s, false, 0⟩

end Sys2Proof.Machine
end

