-- ==== Sys2Proof/Machine/Control.lean ====
section
/-! DEFINITION. The eight conditional branches and BRK (44_control R108 to R118). -/

namespace Sys2Proof.Machine

/-- The target of a branch, from the address of the instruction after it (44_control R109). -/
def branchTarget (after : Word) (off : Byte) : Word := after + sext16 off

/-- `TakeBranch()` with PC = opaddr + 1: one cycle, one more if the target is in another page than the instruction after
the branch, and PC is written (44_control R109). -/
def takeBranch (off : Byte) (s : State) : Effect :=
  ⟨s.setPC (branchTarget (s.pc + 1) off), true,
    1 + if hiByte (branchTarget (s.pc + 1) off) = hiByte (s.pc + 1) then 0 else 1⟩

/-- A conditional branch: taken when `flag` has the value `want`; not taken, it does nothing (44_control R108, R109). -/
def branchForm (flag : Flag) (want : Bool) (off : Byte) (_ : OpEntry) (s : State) : Effect :=
  if getFlag flag s.p = want then takeBranch off s else ⟨s, false, 0⟩

/-- The handler of the BRK at `opaddr`: it takes the software trap and so writes PC (44_control R118). -/
def brkForm (opaddr : Word) (_ : OpEntry) (s : State) : Effect := ⟨enterTrap opaddr Config.brkPushOffset s, true, 0⟩

/-- BPL rel, 0x10: R110, taken when P.N = 0. -/
def execBpl (off : Byte) (s : State) : Result := runHandler 0x10#8 (branchForm .n false off) s

/-- BMI rel, 0x30: R111, taken when P.N = 1. -/
def execBmi (off : Byte) (s : State) : Result := runHandler 0x30#8 (branchForm .n true off) s

/-- BVC rel, 0x50: R112, taken when P.V = 0. -/
def execBvc (off : Byte) (s : State) : Result := runHandler 0x50#8 (branchForm .v false off) s

/-- BVS rel, 0x70: R113, taken when P.V = 1. -/
def execBvs (off : Byte) (s : State) : Result := runHandler 0x70#8 (branchForm .v true off) s

/-- BCC rel, 0x90: R114, taken when P.C = 0. -/
def execBcc (off : Byte) (s : State) : Result := runHandler 0x90#8 (branchForm .c false off) s

/-- BCS rel, 0xB0: R115, taken when P.C = 1. -/
def execBcs (off : Byte) (s : State) : Result := runHandler 0xB0#8 (branchForm .c true off) s

/-- BNE rel, 0xD0: R116, taken when P.Z = 0. -/
def execBne (off : Byte) (s : State) : Result := runHandler 0xD0#8 (branchForm .z false off) s

/-- BEQ rel, 0xF0: R117, taken when P.Z = 1. -/
def execBeq (off : Byte) (s : State) : Result := runHandler 0xF0#8 (branchForm .z true off) s

/-- BRK, 0x00: R118, the software trap. -/
def execBrk (s : State) : Result := runHandler 0x00#8 (brkForm s.pc) s

end Sys2Proof.Machine
end

