-- ==== Sys2Proof/Machine/LoadLogicShift.lean ====
section
/-! DEFINITION. LDA, AND and ASL in every mode (42_load_logic_shift R97 to R99). -/

namespace Sys2Proof.Machine

/-- The work of LDA on the operand's value: `A <- v; UpdateZN(v)` (42_load_logic_shift R97). -/
def ldaWork (v : Byte) (s : State) : State := (s.setA v).updateZN v

/-- The work of AND on the operand's value: `A <- A AND m`, and Z and N from the result (42_load_logic_shift R98). -/
def andWork (m : Byte) (s : State) : State := (s.setA (s.a &&& m)).updateZN (s.a &&& m)

/-- `(v * 2) mod 256` (42_load_logic_shift R99). -/
def shiftLeft (v : Byte) : Byte := v <<< 1

/-- The work of ASL on a location: C from bit 7 of the value, the shifted value stored back, Z and N from it
(42_load_logic_shift R99). -/
def aslWork (l : Location) (s : State) : State :=
  (store l (shiftLeft (load l s)) (s.setP (setFlag .c (load l s).msb s.p))).updateZN (shiftLeft (load l s))

/-- LDA (z,X), 0xA1: R97, IndirectX. -/
def execLdaIndX (z : Byte) (s : State) : Result := runHandler 0xA1#8 (readForm (atIndirectX z) ldaWork) s

/-- LDA z, 0xA5: R97, ZeroPage. -/
def execLdaZp (z : Byte) (s : State) : Result := runHandler 0xA5#8 (readForm (atZeroPage z) ldaWork) s

/-- LDA #v, 0xA9: R97, Immediate. -/
def execLdaImm (v : Byte) (s : State) : Result := runHandler 0xA9#8 (immediateForm v ldaWork) s

/-- LDA w, 0xAD: R97, Absolute. -/
def execLdaAbs (w : Word) (s : State) : Result := runHandler 0xAD#8 (readForm (atAbsolute w) ldaWork) s

/-- LDA (z),Y, 0xB1: R97, IndirectY. -/
def execLdaIndY (z : Byte) (s : State) : Result := runHandler 0xB1#8 (readForm (atIndirectY z) ldaWork) s

/-- LDA z,X, 0xB5: R97, ZeroPageX. -/
def execLdaZpX (z : Byte) (s : State) : Result := runHandler 0xB5#8 (readForm (atZeroPageX z) ldaWork) s

/-- LDA w,Y, 0xB9: R97, AbsoluteY. -/
def execLdaAbsY (w : Word) (s : State) : Result := runHandler 0xB9#8 (readForm (atAbsoluteY w) ldaWork) s

/-- LDA w,X, 0xBD: R97, AbsoluteX. -/
def execLdaAbsX (w : Word) (s : State) : Result := runHandler 0xBD#8 (readForm (atAbsoluteX w) ldaWork) s

/-- AND (z,X), 0x21: R98, IndirectX. -/
def execAndIndX (z : Byte) (s : State) : Result := runHandler 0x21#8 (readForm (atIndirectX z) andWork) s

/-- AND z, 0x25: R98, ZeroPage. -/
def execAndZp (z : Byte) (s : State) : Result := runHandler 0x25#8 (readForm (atZeroPage z) andWork) s

/-- AND #v, 0x29: R98, Immediate. -/
def execAndImm (v : Byte) (s : State) : Result := runHandler 0x29#8 (immediateForm v andWork) s

/-- AND w, 0x2D: R98, Absolute. -/
def execAndAbs (w : Word) (s : State) : Result := runHandler 0x2D#8 (readForm (atAbsolute w) andWork) s

/-- AND (z),Y, 0x31: R98, IndirectY. -/
def execAndIndY (z : Byte) (s : State) : Result := runHandler 0x31#8 (readForm (atIndirectY z) andWork) s

/-- AND z,X, 0x35: R98, ZeroPageX. -/
def execAndZpX (z : Byte) (s : State) : Result := runHandler 0x35#8 (readForm (atZeroPageX z) andWork) s

/-- AND w,Y, 0x39: R98, AbsoluteY. -/
def execAndAbsY (w : Word) (s : State) : Result := runHandler 0x39#8 (readForm (atAbsoluteY w) andWork) s

/-- AND w,X, 0x3D: R98, AbsoluteX. -/
def execAndAbsX (w : Word) (s : State) : Result := runHandler 0x3D#8 (readForm (atAbsoluteX w) andWork) s

/-- ASL z, 0x06: R99, ZeroPage. -/
def execAslZp (z : Byte) (s : State) : Result := runHandler 0x06#8 (modifyForm (atZeroPage z) aslWork) s

/-- ASL A, 0x0A: R99, Accumulator. -/
def execAslAcc (s : State) : Result := runHandler 0x0A#8 (impliedForm (aslWork .accumulator)) s

/-- ASL w, 0x0E: R99, Absolute. -/
def execAslAbs (w : Word) (s : State) : Result := runHandler 0x0E#8 (modifyForm (atAbsolute w) aslWork) s

/-- ASL z,X, 0x16: R99, ZeroPageX. -/
def execAslZpX (z : Byte) (s : State) : Result := runHandler 0x16#8 (modifyForm (atZeroPageX z) aslWork) s

/-- ASL w,X, 0x1E: R99, AbsoluteX. -/
def execAslAbsX (w : Word) (s : State) : Result := runHandler 0x1E#8 (modifyForm (atAbsoluteX w) aslWork) s

end Sys2Proof.Machine
end

