-- ==== Sys2Proof/Machine/Nop.lean ====
section
/-! DEFINITION. NOP (45_nop R120), the 112 recognized but unimplemented opcodes (R119, R121 to R155), each a no-op with
the event Unimplemented, and the undefined bytes (60_exceptions R157). -/

namespace Sys2Proof.Machine

/-- NOP, 0xEA: R120, implemented: no effect and no event. -/
def execNop (s : State) : Result := runHandler 0xEA#8 (impliedForm fun s => s) s

/-- ADC (z,X), 0x61: R121, a no-op. -/
def execAdcIndX (_ : Byte) (s : State) : Result := runUnimplemented 0x61#8 s

/-- ADC z, 0x65: R121, a no-op. -/
def execAdcZp (_ : Byte) (s : State) : Result := runUnimplemented 0x65#8 s

/-- ADC #v, 0x69: R121, a no-op. -/
def execAdcImm (_ : Byte) (s : State) : Result := runUnimplemented 0x69#8 s

/-- ADC w, 0x6D: R121, a no-op. -/
def execAdcAbs (_ : Word) (s : State) : Result := runUnimplemented 0x6D#8 s

/-- ADC (z),Y, 0x71: R121, a no-op. -/
def execAdcIndY (_ : Byte) (s : State) : Result := runUnimplemented 0x71#8 s

/-- ADC z,X, 0x75: R121, a no-op. -/
def execAdcZpX (_ : Byte) (s : State) : Result := runUnimplemented 0x75#8 s

/-- ADC w,Y, 0x79: R121, a no-op. -/
def execAdcAbsY (_ : Word) (s : State) : Result := runUnimplemented 0x79#8 s

/-- ADC w,X, 0x7D: R121, a no-op. -/
def execAdcAbsX (_ : Word) (s : State) : Result := runUnimplemented 0x7D#8 s

/-- BIT z, 0x24: R122, a no-op. -/
def execBitZp (_ : Byte) (s : State) : Result := runUnimplemented 0x24#8 s

/-- BIT w, 0x2C: R122, a no-op. -/
def execBitAbs (_ : Word) (s : State) : Result := runUnimplemented 0x2C#8 s

/-- CLC, 0x18: R123, a no-op. -/
def execClc (s : State) : Result := runUnimplemented 0x18#8 s

/-- CLD, 0xD8: R124, a no-op. -/
def execCld (s : State) : Result := runUnimplemented 0xD8#8 s

/-- CLI, 0x58: R125, a no-op. -/
def execCli (s : State) : Result := runUnimplemented 0x58#8 s

/-- CLV, 0xB8: R126, a no-op. -/
def execClv (s : State) : Result := runUnimplemented 0xB8#8 s

/-- CMP (z,X), 0xC1: R127, a no-op. -/
def execCmpIndX (_ : Byte) (s : State) : Result := runUnimplemented 0xC1#8 s

/-- CMP z, 0xC5: R127, a no-op. -/
def execCmpZp (_ : Byte) (s : State) : Result := runUnimplemented 0xC5#8 s

/-- CMP #v, 0xC9: R127, a no-op. -/
def execCmpImm (_ : Byte) (s : State) : Result := runUnimplemented 0xC9#8 s

/-- CMP w, 0xCD: R127, a no-op. -/
def execCmpAbs (_ : Word) (s : State) : Result := runUnimplemented 0xCD#8 s

/-- CMP (z),Y, 0xD1: R127, a no-op. -/
def execCmpIndY (_ : Byte) (s : State) : Result := runUnimplemented 0xD1#8 s

/-- CMP z,X, 0xD5: R127, a no-op. -/
def execCmpZpX (_ : Byte) (s : State) : Result := runUnimplemented 0xD5#8 s

/-- CMP w,Y, 0xD9: R127, a no-op. -/
def execCmpAbsY (_ : Word) (s : State) : Result := runUnimplemented 0xD9#8 s

/-- CMP w,X, 0xDD: R127, a no-op. -/
def execCmpAbsX (_ : Word) (s : State) : Result := runUnimplemented 0xDD#8 s

/-- CPX #v, 0xE0: R128, a no-op. -/
def execCpxImm (_ : Byte) (s : State) : Result := runUnimplemented 0xE0#8 s

/-- CPX z, 0xE4: R128, a no-op. -/
def execCpxZp (_ : Byte) (s : State) : Result := runUnimplemented 0xE4#8 s

/-- CPX w, 0xEC: R128, a no-op. -/
def execCpxAbs (_ : Word) (s : State) : Result := runUnimplemented 0xEC#8 s

/-- CPY #v, 0xC0: R129, a no-op. -/
def execCpyImm (_ : Byte) (s : State) : Result := runUnimplemented 0xC0#8 s

/-- CPY z, 0xC4: R129, a no-op. -/
def execCpyZp (_ : Byte) (s : State) : Result := runUnimplemented 0xC4#8 s

/-- CPY w, 0xCC: R129, a no-op. -/
def execCpyAbs (_ : Word) (s : State) : Result := runUnimplemented 0xCC#8 s

/-- DEC z, 0xC6: R130, a no-op. -/
def execDecZp (_ : Byte) (s : State) : Result := runUnimplemented 0xC6#8 s

/-- DEC w, 0xCE: R130, a no-op. -/
def execDecAbs (_ : Word) (s : State) : Result := runUnimplemented 0xCE#8 s

/-- DEC z,X, 0xD6: R130, a no-op. -/
def execDecZpX (_ : Byte) (s : State) : Result := runUnimplemented 0xD6#8 s

/-- DEC w,X, 0xDE: R130, a no-op. -/
def execDecAbsX (_ : Word) (s : State) : Result := runUnimplemented 0xDE#8 s

/-- DEY, 0x88: R131, a no-op. -/
def execDey (s : State) : Result := runUnimplemented 0x88#8 s

/-- EOR (z,X), 0x41: R132, a no-op. -/
def execEorIndX (_ : Byte) (s : State) : Result := runUnimplemented 0x41#8 s

/-- EOR z, 0x45: R132, a no-op. -/
def execEorZp (_ : Byte) (s : State) : Result := runUnimplemented 0x45#8 s

/-- EOR #v, 0x49: R132, a no-op. -/
def execEorImm (_ : Byte) (s : State) : Result := runUnimplemented 0x49#8 s

/-- EOR w, 0x4D: R132, a no-op. -/
def execEorAbs (_ : Word) (s : State) : Result := runUnimplemented 0x4D#8 s

/-- EOR (z),Y, 0x51: R132, a no-op. -/
def execEorIndY (_ : Byte) (s : State) : Result := runUnimplemented 0x51#8 s

/-- EOR z,X, 0x55: R132, a no-op. -/
def execEorZpX (_ : Byte) (s : State) : Result := runUnimplemented 0x55#8 s

/-- EOR w,Y, 0x59: R132, a no-op. -/
def execEorAbsY (_ : Word) (s : State) : Result := runUnimplemented 0x59#8 s

/-- EOR w,X, 0x5D: R132, a no-op. -/
def execEorAbsX (_ : Word) (s : State) : Result := runUnimplemented 0x5D#8 s

/-- INC z, 0xE6: R133, a no-op. -/
def execIncZp (_ : Byte) (s : State) : Result := runUnimplemented 0xE6#8 s

/-- INC w, 0xEE: R133, a no-op. -/
def execIncAbs (_ : Word) (s : State) : Result := runUnimplemented 0xEE#8 s

/-- INC z,X, 0xF6: R133, a no-op. -/
def execIncZpX (_ : Byte) (s : State) : Result := runUnimplemented 0xF6#8 s

/-- INC w,X, 0xFE: R133, a no-op. -/
def execIncAbsX (_ : Word) (s : State) : Result := runUnimplemented 0xFE#8 s

/-- INY, 0xC8: R134, a no-op. -/
def execIny (s : State) : Result := runUnimplemented 0xC8#8 s

/-- JMP w, 0x4C: R135, a no-op. -/
def execJmpAbs (_ : Word) (s : State) : Result := runUnimplemented 0x4C#8 s

/-- JMP (w), 0x6C: R135, a no-op. -/
def execJmpInd (_ : Word) (s : State) : Result := runUnimplemented 0x6C#8 s

/-- JSR w, 0x20: R136, a no-op. -/
def execJsrAbs (_ : Word) (s : State) : Result := runUnimplemented 0x20#8 s

/-- LDX #v, 0xA2: R137, a no-op. -/
def execLdxImm (_ : Byte) (s : State) : Result := runUnimplemented 0xA2#8 s

/-- LDX z, 0xA6: R137, a no-op. -/
def execLdxZp (_ : Byte) (s : State) : Result := runUnimplemented 0xA6#8 s

/-- LDX w, 0xAE: R137, a no-op. -/
def execLdxAbs (_ : Word) (s : State) : Result := runUnimplemented 0xAE#8 s

/-- LDX z,Y, 0xB6: R137, a no-op. -/
def execLdxZpY (_ : Byte) (s : State) : Result := runUnimplemented 0xB6#8 s

/-- LDX w,Y, 0xBE: R137, a no-op. -/
def execLdxAbsY (_ : Word) (s : State) : Result := runUnimplemented 0xBE#8 s

/-- LDY #v, 0xA0: R138, a no-op. -/
def execLdyImm (_ : Byte) (s : State) : Result := runUnimplemented 0xA0#8 s

/-- LDY z, 0xA4: R138, a no-op. -/
def execLdyZp (_ : Byte) (s : State) : Result := runUnimplemented 0xA4#8 s

/-- LDY w, 0xAC: R138, a no-op. -/
def execLdyAbs (_ : Word) (s : State) : Result := runUnimplemented 0xAC#8 s

/-- LDY z,X, 0xB4: R138, a no-op. -/
def execLdyZpX (_ : Byte) (s : State) : Result := runUnimplemented 0xB4#8 s

/-- LDY w,X, 0xBC: R138, a no-op. -/
def execLdyAbsX (_ : Word) (s : State) : Result := runUnimplemented 0xBC#8 s

/-- LSR z, 0x46: R139, a no-op. -/
def execLsrZp (_ : Byte) (s : State) : Result := runUnimplemented 0x46#8 s

/-- LSR A, 0x4A: R139, a no-op. -/
def execLsrAcc (s : State) : Result := runUnimplemented 0x4A#8 s

/-- LSR w, 0x4E: R139, a no-op. -/
def execLsrAbs (_ : Word) (s : State) : Result := runUnimplemented 0x4E#8 s

/-- LSR z,X, 0x56: R139, a no-op. -/
def execLsrZpX (_ : Byte) (s : State) : Result := runUnimplemented 0x56#8 s

/-- LSR w,X, 0x5E: R139, a no-op. -/
def execLsrAbsX (_ : Word) (s : State) : Result := runUnimplemented 0x5E#8 s

/-- ORA (z,X), 0x01: R140, a no-op. -/
def execOraIndX (_ : Byte) (s : State) : Result := runUnimplemented 0x01#8 s

/-- ORA z, 0x05: R140, a no-op. -/
def execOraZp (_ : Byte) (s : State) : Result := runUnimplemented 0x05#8 s

/-- ORA #v, 0x09: R140, a no-op. -/
def execOraImm (_ : Byte) (s : State) : Result := runUnimplemented 0x09#8 s

/-- ORA w, 0x0D: R140, a no-op. -/
def execOraAbs (_ : Word) (s : State) : Result := runUnimplemented 0x0D#8 s

/-- ORA (z),Y, 0x11: R140, a no-op. -/
def execOraIndY (_ : Byte) (s : State) : Result := runUnimplemented 0x11#8 s

/-- ORA z,X, 0x15: R140, a no-op. -/
def execOraZpX (_ : Byte) (s : State) : Result := runUnimplemented 0x15#8 s

/-- ORA w,Y, 0x19: R140, a no-op. -/
def execOraAbsY (_ : Word) (s : State) : Result := runUnimplemented 0x19#8 s

/-- ORA w,X, 0x1D: R140, a no-op. -/
def execOraAbsX (_ : Word) (s : State) : Result := runUnimplemented 0x1D#8 s

/-- PHA, 0x48: R141, a no-op. -/
def execPha (s : State) : Result := runUnimplemented 0x48#8 s

/-- PHP, 0x08: R142, a no-op. -/
def execPhp (s : State) : Result := runUnimplemented 0x08#8 s

/-- PLA, 0x68: R143, a no-op. -/
def execPla (s : State) : Result := runUnimplemented 0x68#8 s

/-- PLP, 0x28: R144, a no-op. -/
def execPlp (s : State) : Result := runUnimplemented 0x28#8 s

/-- ROL z, 0x26: R145, a no-op. -/
def execRolZp (_ : Byte) (s : State) : Result := runUnimplemented 0x26#8 s

/-- ROL A, 0x2A: R145, a no-op. -/
def execRolAcc (s : State) : Result := runUnimplemented 0x2A#8 s

/-- ROL w, 0x2E: R145, a no-op. -/
def execRolAbs (_ : Word) (s : State) : Result := runUnimplemented 0x2E#8 s

/-- ROL z,X, 0x36: R145, a no-op. -/
def execRolZpX (_ : Byte) (s : State) : Result := runUnimplemented 0x36#8 s

/-- ROL w,X, 0x3E: R145, a no-op. -/
def execRolAbsX (_ : Word) (s : State) : Result := runUnimplemented 0x3E#8 s

/-- ROR z, 0x66: R146, a no-op. -/
def execRorZp (_ : Byte) (s : State) : Result := runUnimplemented 0x66#8 s

/-- ROR A, 0x6A: R146, a no-op. -/
def execRorAcc (s : State) : Result := runUnimplemented 0x6A#8 s

/-- ROR w, 0x6E: R146, a no-op. -/
def execRorAbs (_ : Word) (s : State) : Result := runUnimplemented 0x6E#8 s

/-- ROR z,X, 0x76: R146, a no-op. -/
def execRorZpX (_ : Byte) (s : State) : Result := runUnimplemented 0x76#8 s

/-- ROR w,X, 0x7E: R146, a no-op. -/
def execRorAbsX (_ : Word) (s : State) : Result := runUnimplemented 0x7E#8 s

/-- RTI, 0x40: R147, a no-op. -/
def execRti (s : State) : Result := runUnimplemented 0x40#8 s

/-- RTS, 0x60: R148, a no-op. -/
def execRts (s : State) : Result := runUnimplemented 0x60#8 s

/-- SBC (z,X), 0xE1: R149, a no-op. -/
def execSbcIndX (_ : Byte) (s : State) : Result := runUnimplemented 0xE1#8 s

/-- SBC z, 0xE5: R149, a no-op. -/
def execSbcZp (_ : Byte) (s : State) : Result := runUnimplemented 0xE5#8 s

/-- SBC #v, 0xE9: R149, a no-op. -/
def execSbcImm (_ : Byte) (s : State) : Result := runUnimplemented 0xE9#8 s

/-- SBC w, 0xED: R149, a no-op. -/
def execSbcAbs (_ : Word) (s : State) : Result := runUnimplemented 0xED#8 s

/-- SBC (z),Y, 0xF1: R149, a no-op. -/
def execSbcIndY (_ : Byte) (s : State) : Result := runUnimplemented 0xF1#8 s

/-- SBC z,X, 0xF5: R149, a no-op. -/
def execSbcZpX (_ : Byte) (s : State) : Result := runUnimplemented 0xF5#8 s

/-- SBC w,Y, 0xF9: R149, a no-op. -/
def execSbcAbsY (_ : Word) (s : State) : Result := runUnimplemented 0xF9#8 s

/-- SBC w,X, 0xFD: R149, a no-op. -/
def execSbcAbsX (_ : Word) (s : State) : Result := runUnimplemented 0xFD#8 s

/-- SEC, 0x38: R150, a no-op. -/
def execSec (s : State) : Result := runUnimplemented 0x38#8 s

/-- SED, 0xF8: R151, a no-op. -/
def execSed (s : State) : Result := runUnimplemented 0xF8#8 s

/-- SEI, 0x78: R152, a no-op. -/
def execSei (s : State) : Result := runUnimplemented 0x78#8 s

/-- STA (z,X), 0x81: R153, a no-op. -/
def execStaIndX (_ : Byte) (s : State) : Result := runUnimplemented 0x81#8 s

/-- STA z, 0x85: R153, a no-op. -/
def execStaZp (_ : Byte) (s : State) : Result := runUnimplemented 0x85#8 s

/-- STA w, 0x8D: R153, a no-op. -/
def execStaAbs (_ : Word) (s : State) : Result := runUnimplemented 0x8D#8 s

/-- STA (z),Y, 0x91: R153, a no-op. -/
def execStaIndY (_ : Byte) (s : State) : Result := runUnimplemented 0x91#8 s

/-- STA z,X, 0x95: R153, a no-op. -/
def execStaZpX (_ : Byte) (s : State) : Result := runUnimplemented 0x95#8 s

/-- STA w,Y, 0x99: R153, a no-op. -/
def execStaAbsY (_ : Word) (s : State) : Result := runUnimplemented 0x99#8 s

/-- STA w,X, 0x9D: R153, a no-op. -/
def execStaAbsX (_ : Word) (s : State) : Result := runUnimplemented 0x9D#8 s

/-- STX z, 0x86: R154, a no-op. -/
def execStxZp (_ : Byte) (s : State) : Result := runUnimplemented 0x86#8 s

/-- STX w, 0x8E: R154, a no-op. -/
def execStxAbs (_ : Word) (s : State) : Result := runUnimplemented 0x8E#8 s

/-- STX z,Y, 0x96: R154, a no-op. -/
def execStxZpY (_ : Byte) (s : State) : Result := runUnimplemented 0x96#8 s

/-- STY z, 0x84: R155, a no-op. -/
def execStyZp (_ : Byte) (s : State) : Result := runUnimplemented 0x84#8 s

/-- STY w, 0x8C: R155, a no-op. -/
def execStyAbs (_ : Word) (s : State) : Result := runUnimplemented 0x8C#8 s

/-- STY z,X, 0x94: R155, a no-op. -/
def execStyZpX (_ : Byte) (s : State) : Result := runUnimplemented 0x94#8 s

/-- An undefined byte: R157, DecodeError is raised. -/
def execUndefined (op : Byte) (s : State) : Result := raiseDecodeError op s

end Sys2Proof.Machine
end

