-- ==== Sys2Proof/Machine/RegisterOps.lean ====
section
/-! DEFINITION. INX, DEX and the six register transfers (43_register_ops R100 to R107). -/

namespace Sys2Proof.Machine

/-- `X <- r; UpdateZN(r)`. -/
def toX (r : Byte) (s : State) : State := (s.setX r).updateZN r

/-- `Y <- r; UpdateZN(r)`. -/
def toY (r : Byte) (s : State) : State := (s.setY r).updateZN r

/-- `A <- r; UpdateZN(r)`. -/
def toA (r : Byte) (s : State) : State := (s.setA r).updateZN r

/-- INX, 0xE8: R100, X + 1 mod 256, Z and N. -/
def execInx (s : State) : Result := runHandler 0xE8#8 (impliedForm (fun s => toX (s.x + 1) s)) s

/-- DEX, 0xCA: R101, X - 1 mod 256, Z and N. -/
def execDex (s : State) : Result := runHandler 0xCA#8 (impliedForm (fun s => toX (s.x - 1) s)) s

/-- TAX, 0xAA: R102, A to X, Z and N. -/
def execTax (s : State) : Result := runHandler 0xAA#8 (impliedForm (fun s => toX s.a s)) s

/-- TAY, 0xA8: R103, A to Y, Z and N. -/
def execTay (s : State) : Result := runHandler 0xA8#8 (impliedForm (fun s => toY s.a s)) s

/-- TXA, 0x8A: R104, X to A, Z and N. -/
def execTxa (s : State) : Result := runHandler 0x8A#8 (impliedForm (fun s => toA s.x s)) s

/-- TYA, 0x98: R105, Y to A, Z and N. -/
def execTya (s : State) : Result := runHandler 0x98#8 (impliedForm (fun s => toA s.y s)) s

/-- TSX, 0xBA: R106, the low byte of SP to X, Z and N. -/
def execTsx (s : State) : Result := runHandler 0xBA#8 (impliedForm (fun s => toX (loByte s.sp) s)) s

/-- TXS, 0x9A: R107, SP becomes 0x0100 + X; no flag. -/
def execTxs (s : State) : Result := runHandler 0x9A#8 (impliedForm (fun s => s.setSP (0x0100 + zext16 s.x))) s

end Sys2Proof.Machine
end

