-- ==== Sys2Proof/Syntax.lean ====
section
/-! DEFINITION. The instructions of CORE, one constructor per defined row of the opcode table (30_encoding R63), in the
order of the rules R97 to R155, then one constructor for the 105 rows UNDEFINED, which share one entry (30_encoding R60;
log 12). A constructor carries its operand bytes (30_encoding R54): `v` an immediate byte, `off` a branch offset, `z` a
zero-page address, `w` a 16-bit address `hhhhhhhh:llllllll`. -/

namespace Sys2Proof

/-- An instruction of CORE. The names of the recognized but unimplemented ones say nothing of their effect (45_nop, warning). -/
inductive Instr where
  /-- 0xA1 LDA (z,X) (R97) -/
  | ldaIndX (z : Byte)
  /-- 0xA5 LDA z (R97) -/
  | ldaZp (z : Byte)
  /-- 0xA9 LDA #v (R97) -/
  | ldaImm (v : Byte)
  /-- 0xAD LDA w (R97) -/
  | ldaAbs (w : Word)
  /-- 0xB1 LDA (z),Y (R97) -/
  | ldaIndY (z : Byte)
  /-- 0xB5 LDA z,X (R97) -/
  | ldaZpX (z : Byte)
  /-- 0xB9 LDA w,Y (R97) -/
  | ldaAbsY (w : Word)
  /-- 0xBD LDA w,X (R97) -/
  | ldaAbsX (w : Word)
  /-- 0x21 AND (z,X) (R98) -/
  | andIndX (z : Byte)
  /-- 0x25 AND z (R98) -/
  | andZp (z : Byte)
  /-- 0x29 AND #v (R98) -/
  | andImm (v : Byte)
  /-- 0x2D AND w (R98) -/
  | andAbs (w : Word)
  /-- 0x31 AND (z),Y (R98) -/
  | andIndY (z : Byte)
  /-- 0x35 AND z,X (R98) -/
  | andZpX (z : Byte)
  /-- 0x39 AND w,Y (R98) -/
  | andAbsY (w : Word)
  /-- 0x3D AND w,X (R98) -/
  | andAbsX (w : Word)
  /-- 0x06 ASL z (R99) -/
  | aslZp (z : Byte)
  /-- 0x0A ASL A (R99) -/
  | aslAcc
  /-- 0x0E ASL w (R99) -/
  | aslAbs (w : Word)
  /-- 0x16 ASL z,X (R99) -/
  | aslZpX (z : Byte)
  /-- 0x1E ASL w,X (R99) -/
  | aslAbsX (w : Word)
  /-- 0xE8 INX (R100) -/
  | inx
  /-- 0xCA DEX (R101) -/
  | dex
  /-- 0xAA TAX (R102) -/
  | tax
  /-- 0xA8 TAY (R103) -/
  | tay
  /-- 0x8A TXA (R104) -/
  | txa
  /-- 0x98 TYA (R105) -/
  | tya
  /-- 0xBA TSX (R106) -/
  | tsx
  /-- 0x9A TXS (R107) -/
  | txs
  /-- 0x10 BPL rel (R110) -/
  | bpl (off : Byte)
  /-- 0x30 BMI rel (R111) -/
  | bmi (off : Byte)
  /-- 0x50 BVC rel (R112) -/
  | bvc (off : Byte)
  /-- 0x70 BVS rel (R113) -/
  | bvs (off : Byte)
  /-- 0x90 BCC rel (R114) -/
  | bcc (off : Byte)
  /-- 0xB0 BCS rel (R115) -/
  | bcs (off : Byte)
  /-- 0xD0 BNE rel (R116) -/
  | bne (off : Byte)
  /-- 0xF0 BEQ rel (R117) -/
  | beq (off : Byte)
  /-- 0x00 BRK (R118) -/
  | brk
  /-- 0xEA NOP (R120) -/
  | nop
  /-- 0x61 ADC (z,X) (R121) -/
  | adcIndX (z : Byte)
  /-- 0x65 ADC z (R121) -/
  | adcZp (z : Byte)
  /-- 0x69 ADC #v (R121) -/
  | adcImm (v : Byte)
  /-- 0x6D ADC w (R121) -/
  | adcAbs (w : Word)
  /-- 0x71 ADC (z),Y (R121) -/
  | adcIndY (z : Byte)
  /-- 0x75 ADC z,X (R121) -/
  | adcZpX (z : Byte)
  /-- 0x79 ADC w,Y (R121) -/
  | adcAbsY (w : Word)
  /-- 0x7D ADC w,X (R121) -/
  | adcAbsX (w : Word)
  /-- 0x24 BIT z (R122) -/
  | bitZp (z : Byte)
  /-- 0x2C BIT w (R122) -/
  | bitAbs (w : Word)
  /-- 0x18 CLC (R123) -/
  | clc
  /-- 0xD8 CLD (R124) -/
  | cld
  /-- 0x58 CLI (R125) -/
  | cli
  /-- 0xB8 CLV (R126) -/
  | clv
  /-- 0xC1 CMP (z,X) (R127) -/
  | cmpIndX (z : Byte)
  /-- 0xC5 CMP z (R127) -/
  | cmpZp (z : Byte)
  /-- 0xC9 CMP #v (R127) -/
  | cmpImm (v : Byte)
  /-- 0xCD CMP w (R127) -/
  | cmpAbs (w : Word)
  /-- 0xD1 CMP (z),Y (R127) -/
  | cmpIndY (z : Byte)
  /-- 0xD5 CMP z,X (R127) -/
  | cmpZpX (z : Byte)
  /-- 0xD9 CMP w,Y (R127) -/
  | cmpAbsY (w : Word)
  /-- 0xDD CMP w,X (R127) -/
  | cmpAbsX (w : Word)
  /-- 0xE0 CPX #v (R128) -/
  | cpxImm (v : Byte)
  /-- 0xE4 CPX z (R128) -/
  | cpxZp (z : Byte)
  /-- 0xEC CPX w (R128) -/
  | cpxAbs (w : Word)
  /-- 0xC0 CPY #v (R129) -/
  | cpyImm (v : Byte)
  /-- 0xC4 CPY z (R129) -/
  | cpyZp (z : Byte)
  /-- 0xCC CPY w (R129) -/
  | cpyAbs (w : Word)
  /-- 0xC6 DEC z (R130) -/
  | decZp (z : Byte)
  /-- 0xCE DEC w (R130) -/
  | decAbs (w : Word)
  /-- 0xD6 DEC z,X (R130) -/
  | decZpX (z : Byte)
  /-- 0xDE DEC w,X (R130) -/
  | decAbsX (w : Word)
  /-- 0x88 DEY (R131) -/
  | dey
  /-- 0x41 EOR (z,X) (R132) -/
  | eorIndX (z : Byte)
  /-- 0x45 EOR z (R132) -/
  | eorZp (z : Byte)
  /-- 0x49 EOR #v (R132) -/
  | eorImm (v : Byte)
  /-- 0x4D EOR w (R132) -/
  | eorAbs (w : Word)
  /-- 0x51 EOR (z),Y (R132) -/
  | eorIndY (z : Byte)
  /-- 0x55 EOR z,X (R132) -/
  | eorZpX (z : Byte)
  /-- 0x59 EOR w,Y (R132) -/
  | eorAbsY (w : Word)
  /-- 0x5D EOR w,X (R132) -/
  | eorAbsX (w : Word)
  /-- 0xE6 INC z (R133) -/
  | incZp (z : Byte)
  /-- 0xEE INC w (R133) -/
  | incAbs (w : Word)
  /-- 0xF6 INC z,X (R133) -/
  | incZpX (z : Byte)
  /-- 0xFE INC w,X (R133) -/
  | incAbsX (w : Word)
  /-- 0xC8 INY (R134) -/
  | iny
  /-- 0x4C JMP w (R135) -/
  | jmpAbs (w : Word)
  /-- 0x6C JMP (w) (R135) -/
  | jmpInd (w : Word)
  /-- 0x20 JSR w (R136) -/
  | jsrAbs (w : Word)
  /-- 0xA2 LDX #v (R137) -/
  | ldxImm (v : Byte)
  /-- 0xA6 LDX z (R137) -/
  | ldxZp (z : Byte)
  /-- 0xAE LDX w (R137) -/
  | ldxAbs (w : Word)
  /-- 0xB6 LDX z,Y (R137) -/
  | ldxZpY (z : Byte)
  /-- 0xBE LDX w,Y (R137) -/
  | ldxAbsY (w : Word)
  /-- 0xA0 LDY #v (R138) -/
  | ldyImm (v : Byte)
  /-- 0xA4 LDY z (R138) -/
  | ldyZp (z : Byte)
  /-- 0xAC LDY w (R138) -/
  | ldyAbs (w : Word)
  /-- 0xB4 LDY z,X (R138) -/
  | ldyZpX (z : Byte)
  /-- 0xBC LDY w,X (R138) -/
  | ldyAbsX (w : Word)
  /-- 0x46 LSR z (R139) -/
  | lsrZp (z : Byte)
  /-- 0x4A LSR A (R139) -/
  | lsrAcc
  /-- 0x4E LSR w (R139) -/
  | lsrAbs (w : Word)
  /-- 0x56 LSR z,X (R139) -/
  | lsrZpX (z : Byte)
  /-- 0x5E LSR w,X (R139) -/
  | lsrAbsX (w : Word)
  /-- 0x01 ORA (z,X) (R140) -/
  | oraIndX (z : Byte)
  /-- 0x05 ORA z (R140) -/
  | oraZp (z : Byte)
  /-- 0x09 ORA #v (R140) -/
  | oraImm (v : Byte)
  /-- 0x0D ORA w (R140) -/
  | oraAbs (w : Word)
  /-- 0x11 ORA (z),Y (R140) -/
  | oraIndY (z : Byte)
  /-- 0x15 ORA z,X (R140) -/
  | oraZpX (z : Byte)
  /-- 0x19 ORA w,Y (R140) -/
  | oraAbsY (w : Word)
  /-- 0x1D ORA w,X (R140) -/
  | oraAbsX (w : Word)
  /-- 0x48 PHA (R141) -/
  | pha
  /-- 0x08 PHP (R142) -/
  | php
  /-- 0x68 PLA (R143) -/
  | pla
  /-- 0x28 PLP (R144) -/
  | plp
  /-- 0x26 ROL z (R145) -/
  | rolZp (z : Byte)
  /-- 0x2A ROL A (R145) -/
  | rolAcc
  /-- 0x2E ROL w (R145) -/
  | rolAbs (w : Word)
  /-- 0x36 ROL z,X (R145) -/
  | rolZpX (z : Byte)
  /-- 0x3E ROL w,X (R145) -/
  | rolAbsX (w : Word)
  /-- 0x66 ROR z (R146) -/
  | rorZp (z : Byte)
  /-- 0x6A ROR A (R146) -/
  | rorAcc
  /-- 0x6E ROR w (R146) -/
  | rorAbs (w : Word)
  /-- 0x76 ROR z,X (R146) -/
  | rorZpX (z : Byte)
  /-- 0x7E ROR w,X (R146) -/
  | rorAbsX (w : Word)
  /-- 0x40 RTI (R147) -/
  | rti
  /-- 0x60 RTS (R148) -/
  | rts
  /-- 0xE1 SBC (z,X) (R149) -/
  | sbcIndX (z : Byte)
  /-- 0xE5 SBC z (R149) -/
  | sbcZp (z : Byte)
  /-- 0xE9 SBC #v (R149) -/
  | sbcImm (v : Byte)
  /-- 0xED SBC w (R149) -/
  | sbcAbs (w : Word)
  /-- 0xF1 SBC (z),Y (R149) -/
  | sbcIndY (z : Byte)
  /-- 0xF5 SBC z,X (R149) -/
  | sbcZpX (z : Byte)
  /-- 0xF9 SBC w,Y (R149) -/
  | sbcAbsY (w : Word)
  /-- 0xFD SBC w,X (R149) -/
  | sbcAbsX (w : Word)
  /-- 0x38 SEC (R150) -/
  | sec
  /-- 0xF8 SED (R151) -/
  | sed
  /-- 0x78 SEI (R152) -/
  | sei
  /-- 0x81 STA (z,X) (R153) -/
  | staIndX (z : Byte)
  /-- 0x85 STA z (R153) -/
  | staZp (z : Byte)
  /-- 0x8D STA w (R153) -/
  | staAbs (w : Word)
  /-- 0x91 STA (z),Y (R153) -/
  | staIndY (z : Byte)
  /-- 0x95 STA z,X (R153) -/
  | staZpX (z : Byte)
  /-- 0x99 STA w,Y (R153) -/
  | staAbsY (w : Word)
  /-- 0x9D STA w,X (R153) -/
  | staAbsX (w : Word)
  /-- 0x86 STX z (R154) -/
  | stxZp (z : Byte)
  /-- 0x8E STX w (R154) -/
  | stxAbs (w : Word)
  /-- 0x96 STX z,Y (R154) -/
  | stxZpY (z : Byte)
  /-- 0x84 STY z (R155) -/
  | styZp (z : Byte)
  /-- 0x8C STY w (R155) -/
  | styAbs (w : Word)
  /-- 0x94 STY z,X (R155) -/
  | styZpX (z : Byte)
  /-- one of the 105 undefined bytes (R60, R157) -/
  | undefined (op : Byte)
  deriving DecidableEq, Repr

end Sys2Proof
end

