-- ==== Sys2Proof/Decode.lean ====
section
/-! DEFINITION. The decoder (30_encoding R53 to R56, R60): total on any bytes, rejecting by name; then the encoder. The
decoder reads byte 0 in a table of 16 rows of 16, as the map of R63 lays it out, and the operand bytes after it. -/

namespace Sys2Proof

/-- Why a list of bytes holds no whole instruction. A step never meets these: every address exists (20_memory R34). -/
inductive DecodeReject where
  /-- no opcode byte -/
  | noOpcode
  /-- fewer operand bytes than the opcode's size asks for (30_encoding R55) -/
  | missingOperand (op : Byte)
  deriving DecidableEq, Repr

/-- Opcodes 0x00 to 0x0F; `b` is the first operand byte and `h` the second. -/
def decodeRow0 : List (Byte → Byte → Instr) :=
  [fun _ _ => .brk,
   fun b _ => .oraIndX b,
   fun _ _ => .undefined 0x02#8,
   fun _ _ => .undefined 0x03#8,
   fun _ _ => .undefined 0x04#8,
   fun b _ => .oraZp b,
   fun b _ => .aslZp b,
   fun _ _ => .undefined 0x07#8,
   fun _ _ => .php,
   fun b _ => .oraImm b,
   fun _ _ => .aslAcc,
   fun _ _ => .undefined 0x0B#8,
   fun _ _ => .undefined 0x0C#8,
   fun b h => .oraAbs (wordOf h b),
   fun b h => .aslAbs (wordOf h b),
   fun _ _ => .undefined 0x0F#8]

/-- Opcodes 0x10 to 0x1F; `b` is the first operand byte and `h` the second. -/
def decodeRow1 : List (Byte → Byte → Instr) :=
  [fun b _ => .bpl b,
   fun b _ => .oraIndY b,
   fun _ _ => .undefined 0x12#8,
   fun _ _ => .undefined 0x13#8,
   fun _ _ => .undefined 0x14#8,
   fun b _ => .oraZpX b,
   fun b _ => .aslZpX b,
   fun _ _ => .undefined 0x17#8,
   fun _ _ => .clc,
   fun b h => .oraAbsY (wordOf h b),
   fun _ _ => .undefined 0x1A#8,
   fun _ _ => .undefined 0x1B#8,
   fun _ _ => .undefined 0x1C#8,
   fun b h => .oraAbsX (wordOf h b),
   fun b h => .aslAbsX (wordOf h b),
   fun _ _ => .undefined 0x1F#8]

/-- Opcodes 0x20 to 0x2F; `b` is the first operand byte and `h` the second. -/
def decodeRow2 : List (Byte → Byte → Instr) :=
  [fun b h => .jsrAbs (wordOf h b),
   fun b _ => .andIndX b,
   fun _ _ => .undefined 0x22#8,
   fun _ _ => .undefined 0x23#8,
   fun b _ => .bitZp b,
   fun b _ => .andZp b,
   fun b _ => .rolZp b,
   fun _ _ => .undefined 0x27#8,
   fun _ _ => .plp,
   fun b _ => .andImm b,
   fun _ _ => .rolAcc,
   fun _ _ => .undefined 0x2B#8,
   fun b h => .bitAbs (wordOf h b),
   fun b h => .andAbs (wordOf h b),
   fun b h => .rolAbs (wordOf h b),
   fun _ _ => .undefined 0x2F#8]

/-- Opcodes 0x30 to 0x3F; `b` is the first operand byte and `h` the second. -/
def decodeRow3 : List (Byte → Byte → Instr) :=
  [fun b _ => .bmi b,
   fun b _ => .andIndY b,
   fun _ _ => .undefined 0x32#8,
   fun _ _ => .undefined 0x33#8,
   fun _ _ => .undefined 0x34#8,
   fun b _ => .andZpX b,
   fun b _ => .rolZpX b,
   fun _ _ => .undefined 0x37#8,
   fun _ _ => .sec,
   fun b h => .andAbsY (wordOf h b),
   fun _ _ => .undefined 0x3A#8,
   fun _ _ => .undefined 0x3B#8,
   fun _ _ => .undefined 0x3C#8,
   fun b h => .andAbsX (wordOf h b),
   fun b h => .rolAbsX (wordOf h b),
   fun _ _ => .undefined 0x3F#8]

/-- Opcodes 0x40 to 0x4F; `b` is the first operand byte and `h` the second. -/
def decodeRow4 : List (Byte → Byte → Instr) :=
  [fun _ _ => .rti,
   fun b _ => .eorIndX b,
   fun _ _ => .undefined 0x42#8,
   fun _ _ => .undefined 0x43#8,
   fun _ _ => .undefined 0x44#8,
   fun b _ => .eorZp b,
   fun b _ => .lsrZp b,
   fun _ _ => .undefined 0x47#8,
   fun _ _ => .pha,
   fun b _ => .eorImm b,
   fun _ _ => .lsrAcc,
   fun _ _ => .undefined 0x4B#8,
   fun b h => .jmpAbs (wordOf h b),
   fun b h => .eorAbs (wordOf h b),
   fun b h => .lsrAbs (wordOf h b),
   fun _ _ => .undefined 0x4F#8]

/-- Opcodes 0x50 to 0x5F; `b` is the first operand byte and `h` the second. -/
def decodeRow5 : List (Byte → Byte → Instr) :=
  [fun b _ => .bvc b,
   fun b _ => .eorIndY b,
   fun _ _ => .undefined 0x52#8,
   fun _ _ => .undefined 0x53#8,
   fun _ _ => .undefined 0x54#8,
   fun b _ => .eorZpX b,
   fun b _ => .lsrZpX b,
   fun _ _ => .undefined 0x57#8,
   fun _ _ => .cli,
   fun b h => .eorAbsY (wordOf h b),
   fun _ _ => .undefined 0x5A#8,
   fun _ _ => .undefined 0x5B#8,
   fun _ _ => .undefined 0x5C#8,
   fun b h => .eorAbsX (wordOf h b),
   fun b h => .lsrAbsX (wordOf h b),
   fun _ _ => .undefined 0x5F#8]

/-- Opcodes 0x60 to 0x6F; `b` is the first operand byte and `h` the second. -/
def decodeRow6 : List (Byte → Byte → Instr) :=
  [fun _ _ => .rts,
   fun b _ => .adcIndX b,
   fun _ _ => .undefined 0x62#8,
   fun _ _ => .undefined 0x63#8,
   fun _ _ => .undefined 0x64#8,
   fun b _ => .adcZp b,
   fun b _ => .rorZp b,
   fun _ _ => .undefined 0x67#8,
   fun _ _ => .pla,
   fun b _ => .adcImm b,
   fun _ _ => .rorAcc,
   fun _ _ => .undefined 0x6B#8,
   fun b h => .jmpInd (wordOf h b),
   fun b h => .adcAbs (wordOf h b),
   fun b h => .rorAbs (wordOf h b),
   fun _ _ => .undefined 0x6F#8]

/-- Opcodes 0x70 to 0x7F; `b` is the first operand byte and `h` the second. -/
def decodeRow7 : List (Byte → Byte → Instr) :=
  [fun b _ => .bvs b,
   fun b _ => .adcIndY b,
   fun _ _ => .undefined 0x72#8,
   fun _ _ => .undefined 0x73#8,
   fun _ _ => .undefined 0x74#8,
   fun b _ => .adcZpX b,
   fun b _ => .rorZpX b,
   fun _ _ => .undefined 0x77#8,
   fun _ _ => .sei,
   fun b h => .adcAbsY (wordOf h b),
   fun _ _ => .undefined 0x7A#8,
   fun _ _ => .undefined 0x7B#8,
   fun _ _ => .undefined 0x7C#8,
   fun b h => .adcAbsX (wordOf h b),
   fun b h => .rorAbsX (wordOf h b),
   fun _ _ => .undefined 0x7F#8]

/-- Opcodes 0x80 to 0x8F; `b` is the first operand byte and `h` the second. -/
def decodeRow8 : List (Byte → Byte → Instr) :=
  [fun _ _ => .undefined 0x80#8,
   fun b _ => .staIndX b,
   fun _ _ => .undefined 0x82#8,
   fun _ _ => .undefined 0x83#8,
   fun b _ => .styZp b,
   fun b _ => .staZp b,
   fun b _ => .stxZp b,
   fun _ _ => .undefined 0x87#8,
   fun _ _ => .dey,
   fun _ _ => .undefined 0x89#8,
   fun _ _ => .txa,
   fun _ _ => .undefined 0x8B#8,
   fun b h => .styAbs (wordOf h b),
   fun b h => .staAbs (wordOf h b),
   fun b h => .stxAbs (wordOf h b),
   fun _ _ => .undefined 0x8F#8]

/-- Opcodes 0x90 to 0x9F; `b` is the first operand byte and `h` the second. -/
def decodeRow9 : List (Byte → Byte → Instr) :=
  [fun b _ => .bcc b,
   fun b _ => .staIndY b,
   fun _ _ => .undefined 0x92#8,
   fun _ _ => .undefined 0x93#8,
   fun b _ => .styZpX b,
   fun b _ => .staZpX b,
   fun b _ => .stxZpY b,
   fun _ _ => .undefined 0x97#8,
   fun _ _ => .tya,
   fun b h => .staAbsY (wordOf h b),
   fun _ _ => .txs,
   fun _ _ => .undefined 0x9B#8,
   fun _ _ => .undefined 0x9C#8,
   fun b h => .staAbsX (wordOf h b),
   fun _ _ => .undefined 0x9E#8,
   fun _ _ => .undefined 0x9F#8]

/-- Opcodes 0xA0 to 0xAF; `b` is the first operand byte and `h` the second. -/
def decodeRowA : List (Byte → Byte → Instr) :=
  [fun b _ => .ldyImm b,
   fun b _ => .ldaIndX b,
   fun b _ => .ldxImm b,
   fun _ _ => .undefined 0xA3#8,
   fun b _ => .ldyZp b,
   fun b _ => .ldaZp b,
   fun b _ => .ldxZp b,
   fun _ _ => .undefined 0xA7#8,
   fun _ _ => .tay,
   fun b _ => .ldaImm b,
   fun _ _ => .tax,
   fun _ _ => .undefined 0xAB#8,
   fun b h => .ldyAbs (wordOf h b),
   fun b h => .ldaAbs (wordOf h b),
   fun b h => .ldxAbs (wordOf h b),
   fun _ _ => .undefined 0xAF#8]

/-- Opcodes 0xB0 to 0xBF; `b` is the first operand byte and `h` the second. -/
def decodeRowB : List (Byte → Byte → Instr) :=
  [fun b _ => .bcs b,
   fun b _ => .ldaIndY b,
   fun _ _ => .undefined 0xB2#8,
   fun _ _ => .undefined 0xB3#8,
   fun b _ => .ldyZpX b,
   fun b _ => .ldaZpX b,
   fun b _ => .ldxZpY b,
   fun _ _ => .undefined 0xB7#8,
   fun _ _ => .clv,
   fun b h => .ldaAbsY (wordOf h b),
   fun _ _ => .tsx,
   fun _ _ => .undefined 0xBB#8,
   fun b h => .ldyAbsX (wordOf h b),
   fun b h => .ldaAbsX (wordOf h b),
   fun b h => .ldxAbsY (wordOf h b),
   fun _ _ => .undefined 0xBF#8]

/-- Opcodes 0xC0 to 0xCF; `b` is the first operand byte and `h` the second. -/
def decodeRowC : List (Byte → Byte → Instr) :=
  [fun b _ => .cpyImm b,
   fun b _ => .cmpIndX b,
   fun _ _ => .undefined 0xC2#8,
   fun _ _ => .undefined 0xC3#8,
   fun b _ => .cpyZp b,
   fun b _ => .cmpZp b,
   fun b _ => .decZp b,
   fun _ _ => .undefined 0xC7#8,
   fun _ _ => .iny,
   fun b _ => .cmpImm b,
   fun _ _ => .dex,
   fun _ _ => .undefined 0xCB#8,
   fun b h => .cpyAbs (wordOf h b),
   fun b h => .cmpAbs (wordOf h b),
   fun b h => .decAbs (wordOf h b),
   fun _ _ => .undefined 0xCF#8]

/-- Opcodes 0xD0 to 0xDF; `b` is the first operand byte and `h` the second. -/
def decodeRowD : List (Byte → Byte → Instr) :=
  [fun b _ => .bne b,
   fun b _ => .cmpIndY b,
   fun _ _ => .undefined 0xD2#8,
   fun _ _ => .undefined 0xD3#8,
   fun _ _ => .undefined 0xD4#8,
   fun b _ => .cmpZpX b,
   fun b _ => .decZpX b,
   fun _ _ => .undefined 0xD7#8,
   fun _ _ => .cld,
   fun b h => .cmpAbsY (wordOf h b),
   fun _ _ => .undefined 0xDA#8,
   fun _ _ => .undefined 0xDB#8,
   fun _ _ => .undefined 0xDC#8,
   fun b h => .cmpAbsX (wordOf h b),
   fun b h => .decAbsX (wordOf h b),
   fun _ _ => .undefined 0xDF#8]

/-- Opcodes 0xE0 to 0xEF; `b` is the first operand byte and `h` the second. -/
def decodeRowE : List (Byte → Byte → Instr) :=
  [fun b _ => .cpxImm b,
   fun b _ => .sbcIndX b,
   fun _ _ => .undefined 0xE2#8,
   fun _ _ => .undefined 0xE3#8,
   fun b _ => .cpxZp b,
   fun b _ => .sbcZp b,
   fun b _ => .incZp b,
   fun _ _ => .undefined 0xE7#8,
   fun _ _ => .inx,
   fun b _ => .sbcImm b,
   fun _ _ => .nop,
   fun _ _ => .undefined 0xEB#8,
   fun b h => .cpxAbs (wordOf h b),
   fun b h => .sbcAbs (wordOf h b),
   fun b h => .incAbs (wordOf h b),
   fun _ _ => .undefined 0xEF#8]

/-- Opcodes 0xF0 to 0xFF; `b` is the first operand byte and `h` the second. -/
def decodeRowF : List (Byte → Byte → Instr) :=
  [fun b _ => .beq b,
   fun b _ => .sbcIndY b,
   fun _ _ => .undefined 0xF2#8,
   fun _ _ => .undefined 0xF3#8,
   fun _ _ => .undefined 0xF4#8,
   fun b _ => .sbcZpX b,
   fun b _ => .incZpX b,
   fun _ _ => .undefined 0xF7#8,
   fun _ _ => .sed,
   fun b h => .sbcAbsY (wordOf h b),
   fun _ _ => .undefined 0xFA#8,
   fun _ _ => .undefined 0xFB#8,
   fun _ _ => .undefined 0xFC#8,
   fun b h => .sbcAbsX (wordOf h b),
   fun b h => .incAbsX (wordOf h b),
   fun _ _ => .undefined 0xFF#8]

/-- The 16 rows of the decoder. -/
def decodeRows : List (List (Byte → Byte → Instr)) :=
  [decodeRow0, decodeRow1, decodeRow2, decodeRow3, decodeRow4, decodeRow5, decodeRow6, decodeRow7, decodeRow8, decodeRow9, decodeRowA, decodeRowB, decodeRowC, decodeRowD, decodeRowE, decodeRowF]

/-- The instruction of opcode byte `op` with operand bytes `b` and `h`; an instruction without the operand ignores it. -/
def decodeOp (op b h : Byte) : Instr :=
  (decodeRows.getD (op.toNat / 16) []).getD (op.toNat % 16) (fun _ _ => .undefined op) b h

/-- How many operand bytes follow an opcode byte: its size less one, none for an undefined byte (30_encoding R55). -/
def operandCount (op : Byte) : Nat := (opEntry op).size - 1

/-- Read one instruction; answers it with the bytes after it. -/
def decode (bytes : List Byte) : Except DecodeReject (Instr × List Byte) :=
  match bytes with
  | [] => .error .noOpcode
  | op :: rest =>
    if rest.length < operandCount op then .error (.missingOperand op)
    else .ok (decodeOp op (rest.getD 0 0) (rest.getD 1 0), rest.drop (operandCount op))

/-- The byte of table bits `8 k + 7 .. 8 k`; the bits above `nbits` are zero. -/
def tableByte (nbits w k : Nat) : Byte := if 8 * k < nbits then BitVec.ofNat 8 (w >>> (8 * k)) else 0

/-- The three bytes of an instruction whose bits, numbered as the opcode table numbers them, are `w`. -/
def tableBytes (nbits w : Nat) : List Byte := [tableByte nbits w 0, tableByte nbits w 1, tableByte nbits w 2]

/-- What the decoder reads from an instruction whose table bits are `w`. -/
def decodeTableWord (nbits w : Nat) : Option Instr :=
  match decode (tableBytes nbits w) with
  | .ok r => some r.1
  | .error _ => none

/-- The opcode byte of an instruction (30_encoding R63). -/
def Instr.opcode (i : Instr) : Byte :=
  match i with
  | .ldaIndX _ => 0xA1#8
  | .ldaZp _ => 0xA5#8
  | .ldaImm _ => 0xA9#8
  | .ldaAbs _ => 0xAD#8
  | .ldaIndY _ => 0xB1#8
  | .ldaZpX _ => 0xB5#8
  | .ldaAbsY _ => 0xB9#8
  | .ldaAbsX _ => 0xBD#8
  | .andIndX _ => 0x21#8
  | .andZp _ => 0x25#8
  | .andImm _ => 0x29#8
  | .andAbs _ => 0x2D#8
  | .andIndY _ => 0x31#8
  | .andZpX _ => 0x35#8
  | .andAbsY _ => 0x39#8
  | .andAbsX _ => 0x3D#8
  | .aslZp _ => 0x06#8
  | .aslAcc => 0x0A#8
  | .aslAbs _ => 0x0E#8
  | .aslZpX _ => 0x16#8
  | .aslAbsX _ => 0x1E#8
  | .inx => 0xE8#8
  | .dex => 0xCA#8
  | .tax => 0xAA#8
  | .tay => 0xA8#8
  | .txa => 0x8A#8
  | .tya => 0x98#8
  | .tsx => 0xBA#8
  | .txs => 0x9A#8
  | .bpl _ => 0x10#8
  | .bmi _ => 0x30#8
  | .bvc _ => 0x50#8
  | .bvs _ => 0x70#8
  | .bcc _ => 0x90#8
  | .bcs _ => 0xB0#8
  | .bne _ => 0xD0#8
  | .beq _ => 0xF0#8
  | .brk => 0x00#8
  | .nop => 0xEA#8
  | .adcIndX _ => 0x61#8
  | .adcZp _ => 0x65#8
  | .adcImm _ => 0x69#8
  | .adcAbs _ => 0x6D#8
  | .adcIndY _ => 0x71#8
  | .adcZpX _ => 0x75#8
  | .adcAbsY _ => 0x79#8
  | .adcAbsX _ => 0x7D#8
  | .bitZp _ => 0x24#8
  | .bitAbs _ => 0x2C#8
  | .clc => 0x18#8
  | .cld => 0xD8#8
  | .cli => 0x58#8
  | .clv => 0xB8#8
  | .cmpIndX _ => 0xC1#8
  | .cmpZp _ => 0xC5#8
  | .cmpImm _ => 0xC9#8
  | .cmpAbs _ => 0xCD#8
  | .cmpIndY _ => 0xD1#8
  | .cmpZpX _ => 0xD5#8
  | .cmpAbsY _ => 0xD9#8
  | .cmpAbsX _ => 0xDD#8
  | .cpxImm _ => 0xE0#8
  | .cpxZp _ => 0xE4#8
  | .cpxAbs _ => 0xEC#8
  | .cpyImm _ => 0xC0#8
  | .cpyZp _ => 0xC4#8
  | .cpyAbs _ => 0xCC#8
  | .decZp _ => 0xC6#8
  | .decAbs _ => 0xCE#8
  | .decZpX _ => 0xD6#8
  | .decAbsX _ => 0xDE#8
  | .dey => 0x88#8
  | .eorIndX _ => 0x41#8
  | .eorZp _ => 0x45#8
  | .eorImm _ => 0x49#8
  | .eorAbs _ => 0x4D#8
  | .eorIndY _ => 0x51#8
  | .eorZpX _ => 0x55#8
  | .eorAbsY _ => 0x59#8
  | .eorAbsX _ => 0x5D#8
  | .incZp _ => 0xE6#8
  | .incAbs _ => 0xEE#8
  | .incZpX _ => 0xF6#8
  | .incAbsX _ => 0xFE#8
  | .iny => 0xC8#8
  | .jmpAbs _ => 0x4C#8
  | .jmpInd _ => 0x6C#8
  | .jsrAbs _ => 0x20#8
  | .ldxImm _ => 0xA2#8
  | .ldxZp _ => 0xA6#8
  | .ldxAbs _ => 0xAE#8
  | .ldxZpY _ => 0xB6#8
  | .ldxAbsY _ => 0xBE#8
  | .ldyImm _ => 0xA0#8
  | .ldyZp _ => 0xA4#8
  | .ldyAbs _ => 0xAC#8
  | .ldyZpX _ => 0xB4#8
  | .ldyAbsX _ => 0xBC#8
  | .lsrZp _ => 0x46#8
  | .lsrAcc => 0x4A#8
  | .lsrAbs _ => 0x4E#8
  | .lsrZpX _ => 0x56#8
  | .lsrAbsX _ => 0x5E#8
  | .oraIndX _ => 0x01#8
  | .oraZp _ => 0x05#8
  | .oraImm _ => 0x09#8
  | .oraAbs _ => 0x0D#8
  | .oraIndY _ => 0x11#8
  | .oraZpX _ => 0x15#8
  | .oraAbsY _ => 0x19#8
  | .oraAbsX _ => 0x1D#8
  | .pha => 0x48#8
  | .php => 0x08#8
  | .pla => 0x68#8
  | .plp => 0x28#8
  | .rolZp _ => 0x26#8
  | .rolAcc => 0x2A#8
  | .rolAbs _ => 0x2E#8
  | .rolZpX _ => 0x36#8
  | .rolAbsX _ => 0x3E#8
  | .rorZp _ => 0x66#8
  | .rorAcc => 0x6A#8
  | .rorAbs _ => 0x6E#8
  | .rorZpX _ => 0x76#8
  | .rorAbsX _ => 0x7E#8
  | .rti => 0x40#8
  | .rts => 0x60#8
  | .sbcIndX _ => 0xE1#8
  | .sbcZp _ => 0xE5#8
  | .sbcImm _ => 0xE9#8
  | .sbcAbs _ => 0xED#8
  | .sbcIndY _ => 0xF1#8
  | .sbcZpX _ => 0xF5#8
  | .sbcAbsY _ => 0xF9#8
  | .sbcAbsX _ => 0xFD#8
  | .sec => 0x38#8
  | .sed => 0xF8#8
  | .sei => 0x78#8
  | .staIndX _ => 0x81#8
  | .staZp _ => 0x85#8
  | .staAbs _ => 0x8D#8
  | .staIndY _ => 0x91#8
  | .staZpX _ => 0x95#8
  | .staAbsY _ => 0x99#8
  | .staAbsX _ => 0x9D#8
  | .stxZp _ => 0x86#8
  | .stxAbs _ => 0x8E#8
  | .stxZpY _ => 0x96#8
  | .styZp _ => 0x84#8
  | .styAbs _ => 0x8C#8
  | .styZpX _ => 0x94#8
  | .undefined op => op

/-- The table entry of an instruction. -/
def Instr.entry (i : Instr) : OpEntry := opEntry i.opcode

/-- The operand bytes of a 16-bit operand, low byte first (30_encoding R53, R54). -/
def wordBytes (w : Word) : List Byte := [loByte w, hiByte w]

/-- The operand bytes of an instruction, in address order (30_encoding R53, R54). -/
def Instr.operandBytes (i : Instr) : List Byte :=
  match i with
  | .ldaIndX z => [z]
  | .ldaZp z => [z]
  | .ldaImm v => [v]
  | .ldaAbs w => wordBytes w
  | .ldaIndY z => [z]
  | .ldaZpX z => [z]
  | .ldaAbsY w => wordBytes w
  | .ldaAbsX w => wordBytes w
  | .andIndX z => [z]
  | .andZp z => [z]
  | .andImm v => [v]
  | .andAbs w => wordBytes w
  | .andIndY z => [z]
  | .andZpX z => [z]
  | .andAbsY w => wordBytes w
  | .andAbsX w => wordBytes w
  | .aslZp z => [z]
  | .aslAcc => []
  | .aslAbs w => wordBytes w
  | .aslZpX z => [z]
  | .aslAbsX w => wordBytes w
  | .inx => []
  | .dex => []
  | .tax => []
  | .tay => []
  | .txa => []
  | .tya => []
  | .tsx => []
  | .txs => []
  | .bpl off => [off]
  | .bmi off => [off]
  | .bvc off => [off]
  | .bvs off => [off]
  | .bcc off => [off]
  | .bcs off => [off]
  | .bne off => [off]
  | .beq off => [off]
  | .brk => []
  | .nop => []
  | .adcIndX z => [z]
  | .adcZp z => [z]
  | .adcImm v => [v]
  | .adcAbs w => wordBytes w
  | .adcIndY z => [z]
  | .adcZpX z => [z]
  | .adcAbsY w => wordBytes w
  | .adcAbsX w => wordBytes w
  | .bitZp z => [z]
  | .bitAbs w => wordBytes w
  | .clc => []
  | .cld => []
  | .cli => []
  | .clv => []
  | .cmpIndX z => [z]
  | .cmpZp z => [z]
  | .cmpImm v => [v]
  | .cmpAbs w => wordBytes w
  | .cmpIndY z => [z]
  | .cmpZpX z => [z]
  | .cmpAbsY w => wordBytes w
  | .cmpAbsX w => wordBytes w
  | .cpxImm v => [v]
  | .cpxZp z => [z]
  | .cpxAbs w => wordBytes w
  | .cpyImm v => [v]
  | .cpyZp z => [z]
  | .cpyAbs w => wordBytes w
  | .decZp z => [z]
  | .decAbs w => wordBytes w
  | .decZpX z => [z]
  | .decAbsX w => wordBytes w
  | .dey => []
  | .eorIndX z => [z]
  | .eorZp z => [z]
  | .eorImm v => [v]
  | .eorAbs w => wordBytes w
  | .eorIndY z => [z]
  | .eorZpX z => [z]
  | .eorAbsY w => wordBytes w
  | .eorAbsX w => wordBytes w
  | .incZp z => [z]
  | .incAbs w => wordBytes w
  | .incZpX z => [z]
  | .incAbsX w => wordBytes w
  | .iny => []
  | .jmpAbs w => wordBytes w
  | .jmpInd w => wordBytes w
  | .jsrAbs w => wordBytes w
  | .ldxImm v => [v]
  | .ldxZp z => [z]
  | .ldxAbs w => wordBytes w
  | .ldxZpY z => [z]
  | .ldxAbsY w => wordBytes w
  | .ldyImm v => [v]
  | .ldyZp z => [z]
  | .ldyAbs w => wordBytes w
  | .ldyZpX z => [z]
  | .ldyAbsX w => wordBytes w
  | .lsrZp z => [z]
  | .lsrAcc => []
  | .lsrAbs w => wordBytes w
  | .lsrZpX z => [z]
  | .lsrAbsX w => wordBytes w
  | .oraIndX z => [z]
  | .oraZp z => [z]
  | .oraImm v => [v]
  | .oraAbs w => wordBytes w
  | .oraIndY z => [z]
  | .oraZpX z => [z]
  | .oraAbsY w => wordBytes w
  | .oraAbsX w => wordBytes w
  | .pha => []
  | .php => []
  | .pla => []
  | .plp => []
  | .rolZp z => [z]
  | .rolAcc => []
  | .rolAbs w => wordBytes w
  | .rolZpX z => [z]
  | .rolAbsX w => wordBytes w
  | .rorZp z => [z]
  | .rorAcc => []
  | .rorAbs w => wordBytes w
  | .rorZpX z => [z]
  | .rorAbsX w => wordBytes w
  | .rti => []
  | .rts => []
  | .sbcIndX z => [z]
  | .sbcZp z => [z]
  | .sbcImm v => [v]
  | .sbcAbs w => wordBytes w
  | .sbcIndY z => [z]
  | .sbcZpX z => [z]
  | .sbcAbsY w => wordBytes w
  | .sbcAbsX w => wordBytes w
  | .sec => []
  | .sed => []
  | .sei => []
  | .staIndX z => [z]
  | .staZp z => [z]
  | .staAbs w => wordBytes w
  | .staIndY z => [z]
  | .staZpX z => [z]
  | .staAbsY w => wordBytes w
  | .staAbsX w => wordBytes w
  | .stxZp z => [z]
  | .stxAbs w => wordBytes w
  | .stxZpY z => [z]
  | .styZp z => [z]
  | .styAbs w => wordBytes w
  | .styZpX z => [z]
  | .undefined _ => []

/-- The bytes of an instruction, in address order (30_encoding R53). -/
def encode (i : Instr) : List Byte := i.opcode :: i.operandBytes

end Sys2Proof
end

