-- ==== Sys2Proof/Machine/Fetch.lean ====
section
/-! DEFINITION. The start of a step (40_execution R65 to R68): the latch test, the key write, the fetch. -/

namespace Sys2Proof.Machine

/-- The key write of a step (40_execution R67). -/
def State.writeKey (key : Option Byte) (s : State) : State :=
  match key with
  | none => s
  | some k => s.writeByte Config.inputAddr k

/-- The latch test, then the key write; a faulted core answers the latched DecodeError and changes nothing
(40_execution R66, R67). -/
def beginStep (key : Option Byte) (s : State) : Except Fault State :=
  match s.fault with
  | some f => .error (.decodeError f.op f.addr)
  | none => .ok (s.writeKey key)

/-- The opcode byte at PC and the two bytes after it, wrapping at the top (40_execution R68; 10_state R28). Bytes past
the instruction's size are read too, which nothing can observe (20_memory R38). DEDUCED, safe (log 15). -/
def fetchBytes (s : State) : List Byte :=
  [Memory.read s.mem s.pc, Memory.read s.mem (s.pc + 1), Memory.read s.mem (s.pc + 1 + 1)]

/-- The instruction at PC: what the decoder reads from `fetchBytes` (40_execution R68). -/
def fetch (s : State) : Instr :=
  decodeOp (Memory.read s.mem s.pc) (Memory.read s.mem (s.pc + 1)) (Memory.read s.mem (s.pc + 1 + 1))

/-- The `key` of the next `Step(key)` (log 5). -/
def State.nextKey (s : State) : Option Byte := s.keys.headD none

/-- The coming keys after the next one is used (log 5). -/
def State.dropKey (s : State) : State := s.setKeys s.keys.tail

/-- `s` made to fetch the three bytes `bytes`: they are stored at PC, the latch is clear, and no key comes with the next
step, which could overwrite them (log 14). -/
def State.placeInstruction (s : State) (bytes : List Byte) : State :=
  ((s.setMem (Memory.writeBytes s.mem s.pc bytes)).setFault none).setKeys
    (match s.keys with
     | [] => []
     | _ :: rest => none :: rest)

end Sys2Proof.Machine
end

