-- ==== Sys2Proof/Machine/Step.lean ====
section
/-! DEFINITION. One step (40_execution R65). -/

namespace Sys2Proof.Machine

/-- `Step(key)` (40_execution R65). -/
def stepKey (key : Option Byte) (s : State) : Host.Outcome State Fault Refusal :=
  match beginStep key s with
  | .error f => .fault f
  | .ok s1 => exec (fetch s1) s1

/-- The next `Step(key)`, its key taken from the state's coming keys (log 5). A faulted core keeps them: its step changes
nothing (40_execution R66). -/
def step (s : State) : Host.Outcome State Fault Refusal := stepKey s.nextKey s.dropKey

/-- `s` with the instruction whose opcode-table bits are `w` stored where the next step fetches it (log 14). -/
def State.withFetchWord (s : State) (nbits w : Nat) : State := s.placeInstruction (tableBytes nbits w)

end Sys2Proof.Machine
end

