-- ==== Sys2Proof/Machine/HostOps.lean ====
section
/-! DEFINITION. The host operations other than Step (60_exceptions R170 to R174; 40_execution R75, R76). Each acts
between steps; none is a step of the machine. -/

namespace Sys2Proof.Machine

/-- What `Step` returns to the host (40_execution R75). -/
inductive StepResult where
  | ok
  | decodeError (info : OpAt)
  deriving DecidableEq, Repr

/-- The result of a step that answered `r`: DecodeError is read off the latch of the next state, or off the fault of a
step on a faulted core (40_execution R75; log 7). No step is refused. -/
def stepResult (r : Result) : Option StepResult :=
  match r with
  | .next t =>
    match t.fault with
    | none => some .ok
    | some f => some (.decodeError f)
  | .fault (.decodeError op addr) => some (.decodeError ⟨op, addr⟩)
  | .refused _ => none

/-- `Reset()` with the decided register values (70_reset R177). -/
def hostReset (s : State) : State := s.resetTo Config.resetValues

/-- `Load(bytes, start)`: copy, then point the reset vector at the image; an image that would run past 0xFFFF is
refused (60_exceptions R170). -/
def hostLoad (bytes : List Byte) (start : Word) (s : State) : Result :=
  if start.toNat + bytes.length ≤ 0x10000 then
    .next (s.setMem (Memory.writeWord (Memory.writeBytes s.mem start bytes) Config.resetVector start))
  else .refused .imageTooLong

/-- `SetPC(v)` (60_exceptions R172). -/
def hostSetPC (v : Word) (s : State) : State := s.setPC v

/-- `Framebuffer()`: the 1024 bytes from FB_BASE, row-major (60_exceptions R173; 20_memory R46). -/
def hostFramebuffer (s : State) : List Byte :=
  (List.range 1024).map fun i => Memory.read s.mem (Config.fbBase + BitVec.ofNat 16 i)

/-- The core is halted (00_scope R14). -/
def State.halted (s : State) : Bool := getFlag .b s.p

/-- The core is faulted (00_scope R14). -/
def State.faulted (s : State) : Bool := s.fault.isSome

/-- How `Run` ended, with the state it leaves (40_execution R76). -/
inductive RunEnd where
  /-- Halted, with the DecodeError that the core's latch holds, if it holds one (log 19) -/
  | halted (latched : Option OpAt) (s : State)
  | decodeError (info : OpAt) (s : State)
  /-- the bound on the number of steps was reached; the hardware's Run goes on (log 17) -/
  | unfinished (s : State)
  /-- a step refused; no step does -/
  | refused (r : Refusal) (s : State)
  deriving DecidableEq, Repr

/-- The DecodeError that `Run` returned, if it returned one (40_execution R76; 60_exceptions R159; log 19). -/
def RunEnd.returnedError (r : RunEnd) : Option OpAt :=
  match r with
  | .halted latched _ => latched
  | .decodeError info _ => some info
  | .unfinished _ | .refused _ _ => none

/-- How `Run` ends where it performs no further step: P.B is tested first, and a halted core ends it with Halted
(40_execution R76); a faulted core, halted or not, has its latched DecodeError returned at once (60_exceptions R159;
log 19). -/
def runEndsHere (s : State) : Option RunEnd :=
  if s.halted then some (.halted s.fault s)
  else
    match s.fault with
    | some f => some (.decodeError f s)
    | none => none

/-- `Run()` for at most `bound` steps: P.B and FAULT are tested before each `Step(none)` (40_execution R76; log 17). -/
def hostRun : Nat → State → RunEnd
  | bound, s =>
    match runEndsHere s with
    | some r => r
    | none =>
      match bound with
      | 0 => .unfinished s
      | bound + 1 =>
        match stepKey none s with
        | .next t =>
          match t.fault with
          | some f => .decodeError f t
          | none => hostRun bound t
        | .fault (.decodeError op addr) => .decodeError ⟨op, addr⟩ s
        | .refused r => .refused r s

end Sys2Proof.Machine
end

