-- ==== Sys2Proof/Machine/StepAsWritten.lean ====
section
/-! DEFINITION. `Step(key)` a second time, transcribed line by line from the pseudocode of 40_execution R65: the opcode
byte selects a table entry, the entry's mode is resolved by reading memory at PC (41_addressing R81), and the entry's
mnemonic selects the handler (R71). Nothing here decodes an instruction. A statement says that `stepKey`, which decodes
and then runs one meaning per constructor, is the same function. -/

namespace Sys2Proof.Machine

/-- A handler that resolves its operand, loads it and works on the value (42_load_logic_shift R97, R98; R95). -/
def readAsWritten (work : Byte → State → State) (e : OpEntry) (s : State) : Effect :=
  match resolve e.mode s with
  | (some l, cross) => ⟨work (load l s) s, false, pageCharge e cross⟩
  | (none, _) => ⟨s, false, 0⟩

/-- The handler of ASL, which resolves its operand and modifies it (42_load_logic_shift R99). -/
def modifyAsWritten (work : Location → State → State) (e : OpEntry) (s : State) : Effect :=
  match resolve e.mode s with
  | (some l, _) => ⟨work l s, false, 0⟩
  | (none, _) => ⟨s, false, 0⟩

/-- The handler of a branch: if the flag has the value, `TakeBranch()`, which resolves Relative and loads the offset
(44_control R108, R109). -/
def branchAsWritten (flag : Flag) (want : Bool) (s : State) : Effect :=
  if getFlag flag s.p = want then
    match resolve .relative s with
    | (some l, _) => takeBranch (load l s) s
    | (none, _) => ⟨s, false, 0⟩
  else ⟨s, false, 0⟩

/-- `Execute(e)` for an implemented opcode at `opaddr`, with PC = opaddr + 1 (40_execution R71). The mnemonics of the
last arm are implemented by no entry. -/
def executeAsWritten (e : OpEntry) (opaddr : Word) (s : State) : Effect :=
  match e.mnemonic with
  | .lda => readAsWritten ldaWork e s
  | .and => readAsWritten andWork e s
  | .asl => modifyAsWritten aslWork e s
  | .inx => ⟨toX (s.x + 1) s, false, 0⟩
  | .dex => ⟨toX (s.x - 1) s, false, 0⟩
  | .tax => ⟨toX s.a s, false, 0⟩
  | .tay => ⟨toY s.a s, false, 0⟩
  | .txa => ⟨toA s.x s, false, 0⟩
  | .tya => ⟨toA s.y s, false, 0⟩
  | .tsx => ⟨toX (loByte s.sp) s, false, 0⟩
  | .txs => ⟨s.setSP (0x0100 + zext16 s.x), false, 0⟩
  | .bpl => branchAsWritten .n false s
  | .bmi => branchAsWritten .n true s
  | .bvc => branchAsWritten .v false s
  | .bvs => branchAsWritten .v true s
  | .bcc => branchAsWritten .c false s
  | .bcs => branchAsWritten .c true s
  | .bne => branchAsWritten .z false s
  | .beq => branchAsWritten .z true s
  | .brk => ⟨enterTrap opaddr Config.brkPushOffset s, true, 0⟩
  | .nop => ⟨s, false, 0⟩
  | .adc | .bit | .clc | .cld | .cli | .clv | .cmp | .cpx | .cpy | .dec | .dey | .eor | .inc | .iny | .jmp | .jsr
  | .ldx | .ldy | .lsr | .ora | .pha | .php | .pla | .plp | .rol | .ror | .rti | .rts | .sbc | .sec | .sed | .sei
  | .sta | .stx | .sty | .undefined => ⟨s, false, 0⟩

/-- `Step(key)`, the pseudocode of 40_execution R65. The step that raises DecodeError answers the state with the latch
set; a step on a faulted core answers the latched fault (log 7). -/
def stepAsWritten (key : Option Byte) (s : State) : Result :=
  match s.fault with
  | some f => .fault (.decodeError f.op f.addr)
  | none =>
    let s := s.writeKey key
    let opaddr := s.pc
    let op := Memory.read s.mem s.pc
    let e := opEntry op
    match e.kind with
    | .undefined => .next (s.setFault (some ⟨op, opaddr⟩))
    | .implemented => .next (finishStep e (executeAsWritten e opaddr (s.setPC (s.pc + 1))))
    | .unimplemented => .next (finishStep e ⟨(s.setPC (s.pc + 1)).emit ⟨op, opaddr⟩, false, 0⟩)

end Sys2Proof.Machine
end

