-- ==== Sys2Proof/WellFormed.lean ====
section
/-! DEFINITION. Which terms of `Instr` are instructions. Every operand field has the full width of its encoding
(30_encoding R54), so one check remains: the byte of `undefined` is one of the 105 undefined ones (30_encoding R60). -/

namespace Sys2Proof

/-- The well-formedness of an instruction. -/
def Instr.wellFormed (i : Instr) : Bool :=
  match i with
  | .undefined op => decide ((opEntry op).kind = .undefined)
  | _ => true

end Sys2Proof
end

