-- ==== Sys2Proof/Safety.lean ====
section
/-! DEFINITION. The terms the statements are written in: addresses and costs as arithmetic on natural numbers, taken from
the rules and not from the meanings; which instruction does what; and the invariant of the machine. -/

namespace Sys2Proof.Machine

/-- The byte at a numeric address, taken mod 65,536. -/
def cell (s : State) (n : Nat) : Byte := Memory.read s.mem (BitVec.ofNat 16 n)

/-- The number a byte of page 0 and the byte after it in page 0 make, low byte first (41_addressing R93, R94). -/
def pointerNat (s : State) (n : Nat) : Nat := (cell s ((n + 1) % 256)).toNat * 256 + (cell s (n % 256)).toNat

/-- ZeroPageX as a number (41_addressing R87). -/
def natZeroPageX (z : Byte) (s : State) : Nat := (z.toNat + s.x.toNat) % 256

/-- ZeroPageY as a number (41_addressing R88). -/
def natZeroPageY (z : Byte) (s : State) : Nat := (z.toNat + s.y.toNat) % 256

/-- AbsoluteX as a number (41_addressing R90). -/
def natAbsoluteX (w : Word) (s : State) : Nat := (w.toNat + s.x.toNat) % 65536

/-- AbsoluteY as a number (41_addressing R91). -/
def natAbsoluteY (w : Word) (s : State) : Nat := (w.toNat + s.y.toNat) % 65536

/-- IndirectX as a number (41_addressing R93). -/
def natIndirectX (z : Byte) (s : State) : Nat := pointerNat s (z.toNat + s.x.toNat)

/-- IndirectY as a number (41_addressing R94). -/
def natIndirectY (z : Byte) (s : State) : Nat := (pointerNat s z.toNat + s.y.toNat) % 65536

/-- The carry out of the low address byte, as a number of cycles (41_addressing R90, R95). -/
def crossNat (low index : Nat) : Nat := if low % 256 + index > 255 then 1 else 0

/-- The bytes `bytes` are the instruction `i` and nothing more, and `i` always answers the next state `next s`. -/
def Row (i : Instr) (bytes : List Byte) (next : State → State) : Prop :=
  decode bytes = .ok (i, []) ∧ ∀ s, exec i s = .next (next s)

/-- `i`, encoded as `bytes`, is the common no-op of 45_nop R119 at `cycles` cycles: the event with the opcode byte
(`bytes`' first) and its address, PC past the instruction, the base cost, and no other change. -/
def NoopRow (i : Instr) (bytes : List Byte) (cycles : Nat) : Prop :=
  Row i bytes fun s =>
    { s with
      pc := s.pc + BitVec.ofNat 16 bytes.length
      cyc := s.cyc + cycles
      diag := ⟨bytes.headD 0, s.pc⟩ :: s.diag }

/-- The target of a branch at `opaddr` (44_control R109): opaddr + 2 plus the signed offset, mod 2^16. -/
def targetOf (opaddr : Word) (off : Byte) : Word := BitVec.ofInt 16 ((opaddr.toNat : Int) + 2 + off.toInt)

/-- Whether the target of a branch lies in another page than the instruction after it (44_control R109). -/
def pageChanges (opaddr : Word) (off : Byte) : Bool :=
  decide ((targetOf opaddr off).toNat / 256 ≠ (opaddr.toNat + 2) % 65536 / 256)

/-- `i`, encoded as `[op, off]`, is the branch taken when `flag` has the value `want` (44_control R108, R109). -/
def BranchRow (i : Instr) (op off : Byte) (flag : Flag) (want : Bool) : Prop :=
  decode [op, off] = .ok (i, []) ∧ ∀ s,
    exec i s = if getFlag flag s.p = want
      then .next { s with pc := targetOf s.pc off, cyc := s.cyc + 3 + if pageChanges s.pc off then 1 else 0 }
      else .next { s with pc := s.pc + 2, cyc := s.cyc + 2 }

/-- The table's name of an instruction. -/
def mnemonicOf (i : Instr) : Mnemonic := i.entry.mnemonic

/-- The cell an instruction stores to, where it stores to one resolved cell: the memory forms of ASL (20_memory R43). The
address is that of the meaning's own resolution. -/
def storesAt (i : Instr) (s : State) : Option Location :=
  match i with
  | .aslZp z => some (atZeroPage z s).1
  | .aslZpX z => some (atZeroPageX z s).1
  | .aslAbs w => some (atAbsolute w s).1
  | .aslAbsX w => some (atAbsoluteX w s).1
  | _ => none

/-- The flag, its wanted value and the offset of a conditional branch (44_control R108). -/
def branchOf (i : Instr) : Option (Flag × Bool × Byte) :=
  match i with
  | .bpl off => some (.n, false, off)
  | .bmi off => some (.n, true, off)
  | .bvc off => some (.v, false, off)
  | .bvs off => some (.v, true, off)
  | .bcc off => some (.c, false, off)
  | .bcs off => some (.c, true, off)
  | .bne off => some (.z, false, off)
  | .beq off => some (.z, true, off)
  | _ => none

/-- The cycles a conditional branch adds to its base cost (44_control R109; 70_reset R185). -/
def branchCost (i : Instr) (s : State) : Nat :=
  match branchOf i with
  | some (flag, want, off) => if getFlag flag s.p = want then if pageChanges s.pc off then 2 else 1 else 0
  | none => 0

/-- The carry of the index addition of an instruction that resolves AbsoluteX, AbsoluteY or IndirectY and is charged for
it: the six implemented opcodes with the tag page_crossed (41_addressing R95). -/
def crossCost (i : Instr) (s : State) : Nat :=
  match i with
  | .ldaAbsX w => crossNat w.toNat s.x.toNat
  | .andAbsX w => crossNat w.toNat s.x.toNat
  | .ldaAbsY w => crossNat w.toNat s.y.toNat
  | .andAbsY w => crossNat w.toNat s.y.toNat
  | .ldaIndY z => crossNat (pointerNat s z.toNat) s.y.toNat
  | .andIndY z => crossNat (pointerNat s z.toNat) s.y.toNat
  | _ => 0

/-- What an instruction adds to CYC (70_reset R185): nothing if its byte is undefined. -/
def costOf (i : Instr) (s : State) : Nat :=
  if i.entry.kind = .undefined then 0 else i.entry.cycles + crossCost i s + branchCost i s

/-- The invariant of the machine, which every step keeps from any state that has it. -/
structure State.Inv (s : State) : Prop where
  /-- memory has its canonical form (log 1) -/
  memory : Memory.wf s.mem = true
  /-- a latched fault is that of an undefined byte which still stands at PC (60_exceptions R157, R158) -/
  latch : ∀ f, s.fault = some f → f.addr = s.pc ∧ Memory.read s.mem f.addr = f.op ∧ (opEntry f.op).kind = .undefined
  /-- only recognized but unimplemented opcodes have emitted an event (60_exceptions R167) -/
  events : ∀ e ∈ s.diag, (opEntry e.op).kind = .unimplemented

end Sys2Proof.Machine
end

