-- ==== Sys2Proof/Certificates/Slice0/Obligations.lean ====
section
/-! DEFINITION. The statements for the provers. Each docstring names the rule of spec/ it formalises. -/

open Sys2Proof Sys2Proof.Machine

/-- From any state, Reset sets A, X, Y and P to 0x00, SP to 0x01FF, PC to the little-endian word at 0xFFFC, CYC to 0 and
FAULT to none; memory, the coming keys and the emitted events are unchanged. That Reset leaves the coming keys (log
5) and the emitted events (log 6), two fields of the model's own, is the model's choice. Rests on
70_reset_and_hazards.md section 1 (R177, R178). -/
def Obligations.ResetPutsEveryRegister : Prop :=
  ∀ s : State,
  hostReset s =
    { s with
      a := 0x00, x := 0x00, y := 0x00, p := 0x00
      sp := 0x01FF
      pc := wordOf (Memory.read s.mem 0xFFFD) (Memory.read s.mem 0xFFFC)
      cyc := 0
      fault := none }

/-- For every initial memory INIT_MEM: after power-on and Reset the memory is INIT_MEM, P.B is 0 and FAULT is none, P.I
is 0, PC is the content of the reset vector, SP is 0x01FF and the first push writes 0x01FF. That no key is pending,
that no event was emitted and that State.reset lists nothing in memory are the model's choices (logs 1, 5, 6). Rests
on 70_reset_and_hazards.md section 1 (R178, R179); 10_state.md section 6. -/
def Obligations.ResetStateRuns : Prop :=
  ∀ m : Memory,
  let s := State.powerOn m
  s.mem = m ∧ s.halted = false ∧ s.faulted = false ∧ getFlag .i s.p = false ∧ s.sp = 0x01FF ∧
  s.pc = wordOf (Memory.read m 0xFFFD) (Memory.read m 0xFFFC) ∧
  (∀ v, Memory.read (s.push v).mem 0x01FF = v) ∧
  s.keys = [] ∧ s.diag = [] ∧ State.reset = State.powerOn []

/-- State.reset has the invariant of the machine, and so has the state right after reset with any initial memory in
canonical form. The canonical form of memory is the model's own representation (log 1), and the list of emitted
events that the invariant speaks of is the model's own field, empty at power-on (log 6). Rests on
70_reset_and_hazards.md section 1 (R177, R178); 10_state.md section 6 (R33). -/
def Obligations.InvariantHoldsAtReset : Prop :=
  State.reset.Inv ∧ ∀ m, Memory.wf m = true → (State.powerOn m).Inv

/-- After MemWrite(addr, 1, v) the cell addr reads v, every other cell reads as before, and no register or other state
changes. Rules R37. -/
def Obligations.ByteWriteChangesOneCell : Prop :=
  ∀ (s : State) (addr : Word) (v : Byte),
  (∀ b, Memory.read (s.writeByte addr v).mem b = if b = addr then v else Memory.read s.mem b) ∧
  s.writeByte addr v = { s with mem := (s.writeByte addr v).mem }

/-- MemRead(addr, 2) is hi * 256 + lo with lo the byte at addr and hi the byte at (addr + 1) mod 2^16. Rules R39. -/
def Obligations.WordReadIsLittleEndianAndWraps : Prop :=
  ∀ (m : Memory) (addr : Word),
  (Memory.readWord m addr).toNat =
    (Memory.read m (BitVec.ofNat 16 ((addr.toNat + 1) % 65536))).toNat * 256 + (Memory.read m addr).toNat

/-- After MemWrite(addr, 2, w) the cell addr holds w[7:0], the cell (addr + 1) mod 2^16 holds w[15:8], every other cell
is unchanged, and MemRead(addr, 2) gives w. Rests on 20_memory.md section 2 (R39, R40). -/
def Obligations.WordWriteThenRead : Prop :=
  ∀ (m : Memory) (addr w b : Word),
  Memory.readWord (Memory.writeWord m addr w) addr = w ∧
  Memory.read (Memory.writeWord m addr w) b =
    if b = addr + 1 then BitVec.ofNat 8 (w.toNat / 256) else if b = addr then BitVec.ofNat 8 w.toNat
    else Memory.read m b

/-- If two memories are in the model's canonical form and every 16-bit address reads the same byte in both, they are
equal lists (the representation is the model's, log 1). Rests on 20_memory.md section 1 (R34, R35). -/
def Obligations.CanonicalMemoriesWithEqualBytesAreEqual : Prop :=
  ∀ m n : Memory, Memory.wf m = true → Memory.wf n = true →
  (∀ a : Word, Memory.read m a = Memory.read n a) → m = n

/-- UpdateZN(r) makes P.Z 1 exactly when r is 0x00 and P.N equal to bit 7 of r, whatever P was, and every other flag
keeps its value. Rules R70. -/
def Obligations.UpdateZNSetsZeroAndNegativeOnly : Prop :=
  ∀ (r p : Byte) (f : Flag),
  getFlag f (updateZN r p) =
    match f with
    | .z => decide (r.toNat = 0)
    | .n => decide (r.toNat ≥ 128)
    | _ => getFlag f p

/-- C, Z, I, D, B, U, V and N are bits 0 to 7 of P; writing one flag makes it read as written and leaves the other seven
as they were. The positions are the spec's from general knowledge (log 10). Rests on 10_state.md section 2 (R19,
R20). -/
def Obligations.FlagsAreTheBitsOfP : Prop :=
  ∀ p : Byte,
  getFlag .c p = p.getLsbD 0 ∧ getFlag .z p = p.getLsbD 1 ∧ getFlag .i p = p.getLsbD 2 ∧ getFlag .d p = p.getLsbD 3 ∧
  getFlag .b p = p.getLsbD 4 ∧ getFlag .u p = p.getLsbD 5 ∧ getFlag .v p = p.getLsbD 6 ∧ getFlag .n p = p.getLsbD 7 ∧
  ∀ (f g : Flag) (on : Bool), getFlag f (setFlag g on p) = if f = g then on else getFlag f p

/-- Push(v) writes v at the address SP, changes no other cell, decrements SP modulo 2^16 with no page-1 wrap, and
changes nothing else. Rests on 10_state.md section 3 (R25, R26). -/
def Obligations.PushWritesAtTheFullStackPointer : Prop :=
  ∀ (s : State) (v : Byte),
  (∀ b, Memory.read (s.push v).mem b = if b = s.sp then v else Memory.read s.mem b) ∧
  (s.push v).sp.toNat = (s.sp.toNat + 65535) % 65536 ∧
  s.push v = { s with mem := (s.push v).mem, sp := (s.push v).sp }

/-- With PC at the first operand byte, the resolver gives for ZeroPage, ZeroPageX, Absolute, AbsoluteX, AbsoluteY,
IndirectX and IndirectY the address the rule computes, as a number, and cross = 1 exactly when the unresolved low
byte plus the index exceeds 0xFF. Rules R86, R87, R89, R90, R91, R93, R94. -/
def Obligations.MemoryModesResolve : Prop :=
  ∀ s : State,
  let b := (Memory.read s.mem s.pc)
  let h := (Memory.read s.mem (s.pc + 1))
  let is (r : Operand × Bool) (n : Nat) (cross : Nat) : Prop :=
    ∃ a : Word, r = (some (.address a), decide (cross = 1)) ∧ a.toNat = n
  is (resolve .zeroPage s) b.toNat 0 ∧
  is (resolve .zeroPageX s) (natZeroPageX b s) 0 ∧
  is (resolve .absolute s) (h.toNat * 256 + b.toNat) 0 ∧
  is (resolve .absoluteX s) ((h.toNat * 256 + b.toNat + s.x.toNat) % 65536) (crossNat b.toNat s.x.toNat) ∧
  is (resolve .absoluteY s) ((h.toNat * 256 + b.toNat + s.y.toNat) % 65536) (crossNat b.toNat s.y.toNat) ∧
  is (resolve .indirectX s) (natIndirectX b s) 0 ∧
  is (resolve .indirectY s) (natIndirectY b s) (crossNat (cell s b.toNat).toNat s.y.toNat)

/-- The resolver gives no operand for None, the accumulator for Accumulator, the address PC for Immediate and Relative,
the zero-page sum with Y for ZeroPageY, and for Indirect the word at the pointer, whose high byte is read at
(pointer + 1) mod 2^16. Rests on 41_addressing.md section 1 (R82 to R85, R88, R92). -/
def Obligations.OtherModesResolve : Prop :=
  ∀ s : State,
  let b := (Memory.read s.mem s.pc)
  let h := (Memory.read s.mem (s.pc + 1))
  resolve .none s = (none, false) ∧
  resolve .accumulator s = (some .accumulator, false) ∧
  resolve .immediate s = (some (.address s.pc), false) ∧
  resolve .relative s = (some (.address s.pc), false) ∧
  (∃ a : Word, resolve .zeroPageY s = (some (.address a), false) ∧ a.toNat = natZeroPageY b s) ∧
  (∃ a : Word, resolve .indirect s = (some (.address a), false) ∧
    a.toNat = (cell s (h.toNat * 256 + b.toNat + 1)).toNat * 256 + (cell s (h.toNat * 256 + b.toNat)).toNat)

/-- Each LDA opcode decodes from its byte and, from every state, answers the next state in which A is the operand (the
immediate byte, or the byte at the address its mode gives), Z and N are updated from it, PC is past the instruction,
CYC grows by the base cost (plus one on a page cross for AbsoluteX, AbsoluteY, IndirectY), and everything else is
unchanged. Rules R97. -/
def Obligations.LdaLoadsTheAccumulator : Prop :=
  ∀ b h : Byte,
  (Row (.ldaIndX b) [0xA1, b] fun s =>
    let r := cell s (natIndirectX b s)
    { s with a := r, p := updateZN r s.p, pc := s.pc + 2, cyc := s.cyc + 6 }) ∧
  (Row (.ldaZp b) [0xA5, b] fun s =>
    let r := cell s b.toNat
    { s with a := r, p := updateZN r s.p, pc := s.pc + 2, cyc := s.cyc + 3 }) ∧
  (Row (.ldaImm b) [0xA9, b] fun s =>
    let r := b
    { s with a := r, p := updateZN r s.p, pc := s.pc + 2, cyc := s.cyc + 2 }) ∧
  (Row (.ldaAbs (wordOf h b)) [0xAD, b, h] fun s =>
    let r := cell s (wordOf h b).toNat
    { s with a := r, p := updateZN r s.p, pc := s.pc + 3, cyc := s.cyc + 4 }) ∧
  (Row (.ldaIndY b) [0xB1, b] fun s =>
    let r := cell s (natIndirectY b s)
    { s with a := r, p := updateZN r s.p, pc := s.pc + 2, cyc := s.cyc + 5 + crossNat (cell s b.toNat).toNat s.y.toNat }) ∧
  (Row (.ldaZpX b) [0xB5, b] fun s =>
    let r := cell s (natZeroPageX b s)
    { s with a := r, p := updateZN r s.p, pc := s.pc + 2, cyc := s.cyc + 4 }) ∧
  (Row (.ldaAbsY (wordOf h b)) [0xB9, b, h] fun s =>
    let r := cell s (natAbsoluteY (wordOf h b) s)
    { s with a := r, p := updateZN r s.p, pc := s.pc + 3, cyc := s.cyc + 4 + crossNat b.toNat s.y.toNat }) ∧
  (Row (.ldaAbsX (wordOf h b)) [0xBD, b, h] fun s =>
    let r := cell s (natAbsoluteX (wordOf h b) s)
    { s with a := r, p := updateZN r s.p, pc := s.pc + 3, cyc := s.cyc + 4 + crossNat b.toNat s.x.toNat })

/-- Each AND opcode decodes from its byte and, from every state, answers the next state in which A is A AND the operand,
Z and N are updated from the result, PC is past the instruction, CYC grows by the base cost (plus one on a page
cross for AbsoluteX, AbsoluteY, IndirectY), and everything else is unchanged. Rules R98. -/
def Obligations.AndMasksTheAccumulator : Prop :=
  ∀ b h : Byte,
  (Row (.andIndX b) [0x21, b] fun s =>
    let r := (s.a &&& cell s (natIndirectX b s))
    { s with a := r, p := updateZN r s.p, pc := s.pc + 2, cyc := s.cyc + 6 }) ∧
  (Row (.andZp b) [0x25, b] fun s =>
    let r := (s.a &&& cell s b.toNat)
    { s with a := r, p := updateZN r s.p, pc := s.pc + 2, cyc := s.cyc + 3 }) ∧
  (Row (.andImm b) [0x29, b] fun s =>
    let r := (s.a &&& b)
    { s with a := r, p := updateZN r s.p, pc := s.pc + 2, cyc := s.cyc + 2 }) ∧
  (Row (.andAbs (wordOf h b)) [0x2D, b, h] fun s =>
    let r := (s.a &&& cell s (wordOf h b).toNat)
    { s with a := r, p := updateZN r s.p, pc := s.pc + 3, cyc := s.cyc + 4 }) ∧
  (Row (.andIndY b) [0x31, b] fun s =>
    let r := (s.a &&& cell s (natIndirectY b s))
    { s with a := r, p := updateZN r s.p, pc := s.pc + 2, cyc := s.cyc + 5 + crossNat (cell s b.toNat).toNat s.y.toNat }) ∧
  (Row (.andZpX b) [0x35, b] fun s =>
    let r := (s.a &&& cell s (natZeroPageX b s))
    { s with a := r, p := updateZN r s.p, pc := s.pc + 2, cyc := s.cyc + 4 }) ∧
  (Row (.andAbsY (wordOf h b)) [0x39, b, h] fun s =>
    let r := (s.a &&& cell s (natAbsoluteY (wordOf h b) s))
    { s with a := r, p := updateZN r s.p, pc := s.pc + 3, cyc := s.cyc + 4 + crossNat b.toNat s.y.toNat }) ∧
  (Row (.andAbsX (wordOf h b)) [0x3D, b, h] fun s =>
    let r := (s.a &&& cell s (natAbsoluteX (wordOf h b) s))
    { s with a := r, p := updateZN r s.p, pc := s.pc + 3, cyc := s.cyc + 4 + crossNat b.toNat s.x.toNat })

/-- Each ASL opcode decodes from its byte and, from every state, answers the next state in which the operand (A, or the
one memory byte its mode addresses) is v * 2 mod 256, C is bit 7 of v, Z and N come from the result, PC is past the
instruction, CYC grows by the base cost with no page charge, and everything else is unchanged. Rules R99. -/
def Obligations.AslShiftsItsOperand : Prop :=
  ∀ b h : Byte,
  (Row (.aslZp b) [0x06, b] fun s =>
    let n := b.toNat
    let r := BitVec.ofNat 8 ((cell s n).toNat * 2)
    { s with
      mem := Memory.write s.mem (BitVec.ofNat 16 n) r
      p := updateZN r (setFlag .c (decide ((cell s n).toNat ≥ 128)) s.p)
      pc := s.pc + 2, cyc := s.cyc + 5 }) ∧
  (Row .aslAcc [0x0A] fun s =>
    let r := BitVec.ofNat 8 (s.a.toNat * 2)
    { s with a := r, p := updateZN r (setFlag .c (decide (s.a.toNat ≥ 128)) s.p), pc := s.pc + 1, cyc := s.cyc + 2 }) ∧
  (Row (.aslAbs (wordOf h b)) [0x0E, b, h] fun s =>
    let n := (wordOf h b).toNat
    let r := BitVec.ofNat 8 ((cell s n).toNat * 2)
    { s with
      mem := Memory.write s.mem (BitVec.ofNat 16 n) r
      p := updateZN r (setFlag .c (decide ((cell s n).toNat ≥ 128)) s.p)
      pc := s.pc + 3, cyc := s.cyc + 6 }) ∧
  (Row (.aslZpX b) [0x16, b] fun s =>
    let n := natZeroPageX b s
    let r := BitVec.ofNat 8 ((cell s n).toNat * 2)
    { s with
      mem := Memory.write s.mem (BitVec.ofNat 16 n) r
      p := updateZN r (setFlag .c (decide ((cell s n).toNat ≥ 128)) s.p)
      pc := s.pc + 2, cyc := s.cyc + 6 }) ∧
  (Row (.aslAbsX (wordOf h b)) [0x1E, b, h] fun s =>
    let n := natAbsoluteX (wordOf h b) s
    let r := BitVec.ofNat 8 ((cell s n).toNat * 2)
    { s with
      mem := Memory.write s.mem (BitVec.ofNat 16 n) r
      p := updateZN r (setFlag .c (decide ((cell s n).toNat ≥ 128)) s.p)
      pc := s.pc + 3, cyc := s.cyc + 7 })

/-- INX (0xE8) and DEX (0xCA) answer the next state in which X is X + 1, X - 1 mod 256, Z and N come from it, PC is one
further, CYC grows by 2, and everything else, C and V included, is unchanged. Rules R100, R101. -/
def Obligations.InxAndDexStepX : Prop :=
  (Row .inx [0xE8] fun s =>
    let r := BitVec.ofNat 8 (s.x.toNat + 1)
    { s with x := r, p := updateZN r s.p, pc := s.pc + 1, cyc := s.cyc + 2 }) ∧
  (Row .dex [0xCA] fun s =>
    let r := BitVec.ofNat 8 (s.x.toNat + 255)
    { s with x := r, p := updateZN r s.p, pc := s.pc + 1, cyc := s.cyc + 2 })

/-- TAX, TAY, TXA, TYA and TSX (the low byte of SP) answer the next state in which the destination holds the source, Z
and N come from the transferred value, PC is one further, CYC grows by 2, and everything else is unchanged. Rules
R102, R103, R104, R105, R106. -/
def Obligations.TransfersMoveAndUpdateFlags : Prop :=
  (Row .tax [0xAA] fun s =>
    let r := s.a
    { s with x := r, p := updateZN r s.p, pc := s.pc + 1, cyc := s.cyc + 2 }) ∧
  (Row .tay [0xA8] fun s =>
    let r := s.a
    { s with y := r, p := updateZN r s.p, pc := s.pc + 1, cyc := s.cyc + 2 }) ∧
  (Row .txa [0x8A] fun s =>
    let r := s.x
    { s with a := r, p := updateZN r s.p, pc := s.pc + 1, cyc := s.cyc + 2 }) ∧
  (Row .tya [0x98] fun s =>
    let r := s.y
    { s with a := r, p := updateZN r s.p, pc := s.pc + 1, cyc := s.cyc + 2 }) ∧
  (Row .tsx [0xBA] fun s =>
    let r := BitVec.ofNat 8 s.sp.toNat
    { s with x := r, p := updateZN r s.p, pc := s.pc + 1, cyc := s.cyc + 2 })

/-- TXS (0x9A) answers the next state in which SP is 0x0100 + X, PC is one further, CYC grows by 2, and P and everything
else are unchanged. Rules R107. -/
def Obligations.TxsSetsTheStackPointer : Prop :=
  Row .txs [0x9A] fun s => { s with sp := BitVec.ofNat 16 (256 + s.x.toNat), pc := s.pc + 1, cyc := s.cyc + 2 }

/-- Each branch decodes from its byte and, from every state, answers a next state: if its flag has its value, PC is
opaddr + 2 plus the signed offset mod 2^16 and CYC grows by 3, or 4 when the target is in another page than opaddr +
2; otherwise PC is opaddr + 2 and CYC grows by 2. Nothing else changes. Rules R109, R110, R111, R112, R113, R114,
R115, R116, R117. -/
def Obligations.BranchesGoToTheirTarget : Prop :=
  ∀ off : Byte,
  BranchRow (.bpl off) 0x10 off .n false ∧
  BranchRow (.bmi off) 0x30 off .n true ∧
  BranchRow (.bvc off) 0x50 off .v false ∧
  BranchRow (.bvs off) 0x70 off .v true ∧
  BranchRow (.bcc off) 0x90 off .c false ∧
  BranchRow (.bcs off) 0xB0 off .c true ∧
  BranchRow (.bne off) 0xD0 off .z false ∧
  BranchRow (.beq off) 0xF0 off .z true

/-- BRK (0x00) answers, from every state, the next state in which only B of P is set, the bytes at SP, SP - 1 and SP - 2
are the high and low byte of opaddr + BRK_PUSH_OFFSET (2 or 3, left open) and the new P, no other byte changes, SP
is down by 3 mod 2^16, PC is the word then at 0xFFFE, CYC grows by 7, and nothing else changes. Rules R118. -/
def Obligations.BrkTakesTheTrap : Prop :=
  decode [0x00] = .ok (.brk, []) ∧ (Config.brkPushOffset = 2 ∨ Config.brkPushOffset = 3) ∧ ∀ s, ∃ t,
  exec .brk s = .next t ∧
  t.p = setFlag .b true s.p ∧
  (∀ b, Memory.read t.mem b =
    if b = s.sp then BitVec.ofNat 8 ((s.pc + Config.brkPushOffset).toNat / 256)
    else if b = s.sp - 1 then BitVec.ofNat 8 (s.pc + Config.brkPushOffset).toNat
    else if b = s.sp - 2 then t.p
    else Memory.read s.mem b) ∧
  t.sp = s.sp - 3 ∧
  t.pc = wordOf (Memory.read t.mem 0xFFFF) (Memory.read t.mem 0xFFFE) ∧
  t.cyc = s.cyc + 7 ∧
  t = { s with p := t.p, mem := t.mem, sp := t.sp, pc := t.pc, cyc := t.cyc }

/-- NOP (0xEA) answers the next state in which PC is one further and CYC grows by 2; every other part of the state, the
emitted events included, is unchanged. Rules R120. -/
def Obligations.NopOnlyAdvances : Prop :=
  Row .nop [0xEA] fun s => { s with pc := s.pc + 1, cyc := s.cyc + 2 }

/-- Each opcode of ADC, SBC, CMP, CPX, CPY and BIT decodes from its byte and, from every state, answers the next state
in which the event Unimplemented(op, opaddr) is emitted, PC is past the instruction, CYC grows by the base cost, and
nothing else changes: no operand is read, no register, flag or memory cell is written. Rules R121, R122, R127, R128,
R129, R149. -/
def Obligations.ArithmeticAndCompareAreNoops : Prop :=
  ∀ b h : Byte,
  NoopRow (.adcIndX b) [0x61, b] 6 ∧
  NoopRow (.adcZp b) [0x65, b] 3 ∧
  NoopRow (.adcImm b) [0x69, b] 2 ∧
  NoopRow (.adcAbs (wordOf h b)) [0x6D, b, h] 4 ∧
  NoopRow (.adcIndY b) [0x71, b] 5 ∧
  NoopRow (.adcZpX b) [0x75, b] 4 ∧
  NoopRow (.adcAbsY (wordOf h b)) [0x79, b, h] 4 ∧
  NoopRow (.adcAbsX (wordOf h b)) [0x7D, b, h] 4 ∧
  NoopRow (.bitZp b) [0x24, b] 3 ∧
  NoopRow (.bitAbs (wordOf h b)) [0x2C, b, h] 4 ∧
  NoopRow (.cmpIndX b) [0xC1, b] 6 ∧
  NoopRow (.cmpZp b) [0xC5, b] 3 ∧
  NoopRow (.cmpImm b) [0xC9, b] 2 ∧
  NoopRow (.cmpAbs (wordOf h b)) [0xCD, b, h] 4 ∧
  NoopRow (.cmpIndY b) [0xD1, b] 5 ∧
  NoopRow (.cmpZpX b) [0xD5, b] 4 ∧
  NoopRow (.cmpAbsY (wordOf h b)) [0xD9, b, h] 4 ∧
  NoopRow (.cmpAbsX (wordOf h b)) [0xDD, b, h] 4 ∧
  NoopRow (.cpxImm b) [0xE0, b] 2 ∧
  NoopRow (.cpxZp b) [0xE4, b] 3 ∧
  NoopRow (.cpxAbs (wordOf h b)) [0xEC, b, h] 4 ∧
  NoopRow (.cpyImm b) [0xC0, b] 2 ∧
  NoopRow (.cpyZp b) [0xC4, b] 3 ∧
  NoopRow (.cpyAbs (wordOf h b)) [0xCC, b, h] 4 ∧
  NoopRow (.sbcIndX b) [0xE1, b] 6 ∧
  NoopRow (.sbcZp b) [0xE5, b] 3 ∧
  NoopRow (.sbcImm b) [0xE9, b] 2 ∧
  NoopRow (.sbcAbs (wordOf h b)) [0xED, b, h] 4 ∧
  NoopRow (.sbcIndY b) [0xF1, b] 5 ∧
  NoopRow (.sbcZpX b) [0xF5, b] 4 ∧
  NoopRow (.sbcAbsY (wordOf h b)) [0xF9, b, h] 4 ∧
  NoopRow (.sbcAbsX (wordOf h b)) [0xFD, b, h] 4

/-- Each opcode of EOR, ORA, LSR, ROL, ROR, DEC and INC decodes from its byte and, from every state, answers the next
state in which the event Unimplemented(op, opaddr) is emitted, PC is past the instruction, CYC grows by the base
cost, and nothing else changes: no operand is read, no register, flag or memory cell is written. Rules R130, R132,
R133, R139, R140, R145, R146. -/
def Obligations.LogicShiftAndMemoryStepAreNoops : Prop :=
  ∀ b h : Byte,
  NoopRow (.decZp b) [0xC6, b] 5 ∧
  NoopRow (.decAbs (wordOf h b)) [0xCE, b, h] 6 ∧
  NoopRow (.decZpX b) [0xD6, b] 6 ∧
  NoopRow (.decAbsX (wordOf h b)) [0xDE, b, h] 7 ∧
  NoopRow (.eorIndX b) [0x41, b] 6 ∧
  NoopRow (.eorZp b) [0x45, b] 3 ∧
  NoopRow (.eorImm b) [0x49, b] 2 ∧
  NoopRow (.eorAbs (wordOf h b)) [0x4D, b, h] 4 ∧
  NoopRow (.eorIndY b) [0x51, b] 5 ∧
  NoopRow (.eorZpX b) [0x55, b] 4 ∧
  NoopRow (.eorAbsY (wordOf h b)) [0x59, b, h] 4 ∧
  NoopRow (.eorAbsX (wordOf h b)) [0x5D, b, h] 4 ∧
  NoopRow (.incZp b) [0xE6, b] 5 ∧
  NoopRow (.incAbs (wordOf h b)) [0xEE, b, h] 6 ∧
  NoopRow (.incZpX b) [0xF6, b] 6 ∧
  NoopRow (.incAbsX (wordOf h b)) [0xFE, b, h] 7 ∧
  NoopRow (.lsrZp b) [0x46, b] 5 ∧
  NoopRow .lsrAcc [0x4A] 2 ∧
  NoopRow (.lsrAbs (wordOf h b)) [0x4E, b, h] 6 ∧
  NoopRow (.lsrZpX b) [0x56, b] 6 ∧
  NoopRow (.lsrAbsX (wordOf h b)) [0x5E, b, h] 7 ∧
  NoopRow (.oraIndX b) [0x01, b] 6 ∧
  NoopRow (.oraZp b) [0x05, b] 3 ∧
  NoopRow (.oraImm b) [0x09, b] 2 ∧
  NoopRow (.oraAbs (wordOf h b)) [0x0D, b, h] 4 ∧
  NoopRow (.oraIndY b) [0x11, b] 5 ∧
  NoopRow (.oraZpX b) [0x15, b] 4 ∧
  NoopRow (.oraAbsY (wordOf h b)) [0x19, b, h] 4 ∧
  NoopRow (.oraAbsX (wordOf h b)) [0x1D, b, h] 4 ∧
  NoopRow (.rolZp b) [0x26, b] 5 ∧
  NoopRow .rolAcc [0x2A] 2 ∧
  NoopRow (.rolAbs (wordOf h b)) [0x2E, b, h] 6 ∧
  NoopRow (.rolZpX b) [0x36, b] 6 ∧
  NoopRow (.rolAbsX (wordOf h b)) [0x3E, b, h] 7 ∧
  NoopRow (.rorZp b) [0x66, b] 5 ∧
  NoopRow .rorAcc [0x6A] 2 ∧
  NoopRow (.rorAbs (wordOf h b)) [0x6E, b, h] 6 ∧
  NoopRow (.rorZpX b) [0x76, b] 6 ∧
  NoopRow (.rorAbsX (wordOf h b)) [0x7E, b, h] 7

/-- Each opcode of CLC, CLD, CLI, CLV, SEC, SED, SEI, DEY and INY decodes from its byte and, from every state, answers
the next state in which the event Unimplemented(op, opaddr) is emitted, PC is past the instruction, CYC grows by the
base cost, and nothing else changes: no operand is read, no register, flag or memory cell is written. Rules R123,
R124, R125, R126, R131, R134, R150, R151, R152. -/
def Obligations.FlagAndYStepOpcodesAreNoops : Prop :=
  NoopRow .clc [0x18] 2 ∧
  NoopRow .cld [0xD8] 2 ∧
  NoopRow .cli [0x58] 2 ∧
  NoopRow .clv [0xB8] 2 ∧
  NoopRow .dey [0x88] 2 ∧
  NoopRow .iny [0xC8] 2 ∧
  NoopRow .sec [0x38] 2 ∧
  NoopRow .sed [0xF8] 2 ∧
  NoopRow .sei [0x78] 2

/-- Each opcode of LDX, LDY, STA, STX and STY decodes from its byte and, from every state, answers the next state in
which the event Unimplemented(op, opaddr) is emitted, PC is past the instruction, CYC grows by the base cost, and
nothing else changes: no operand is read, no register, flag or memory cell is written. Rules R137, R138, R153, R154,
R155. -/
def Obligations.LoadsAndStoresOfTheTableAreNoops : Prop :=
  ∀ b h : Byte,
  NoopRow (.ldxImm b) [0xA2, b] 2 ∧
  NoopRow (.ldxZp b) [0xA6, b] 3 ∧
  NoopRow (.ldxAbs (wordOf h b)) [0xAE, b, h] 4 ∧
  NoopRow (.ldxZpY b) [0xB6, b] 4 ∧
  NoopRow (.ldxAbsY (wordOf h b)) [0xBE, b, h] 4 ∧
  NoopRow (.ldyImm b) [0xA0, b] 2 ∧
  NoopRow (.ldyZp b) [0xA4, b] 3 ∧
  NoopRow (.ldyAbs (wordOf h b)) [0xAC, b, h] 4 ∧
  NoopRow (.ldyZpX b) [0xB4, b] 4 ∧
  NoopRow (.ldyAbsX (wordOf h b)) [0xBC, b, h] 4 ∧
  NoopRow (.staIndX b) [0x81, b] 6 ∧
  NoopRow (.staZp b) [0x85, b] 3 ∧
  NoopRow (.staAbs (wordOf h b)) [0x8D, b, h] 4 ∧
  NoopRow (.staIndY b) [0x91, b] 6 ∧
  NoopRow (.staZpX b) [0x95, b] 4 ∧
  NoopRow (.staAbsY (wordOf h b)) [0x99, b, h] 5 ∧
  NoopRow (.staAbsX (wordOf h b)) [0x9D, b, h] 5 ∧
  NoopRow (.stxZp b) [0x86, b] 3 ∧
  NoopRow (.stxAbs (wordOf h b)) [0x8E, b, h] 4 ∧
  NoopRow (.stxZpY b) [0x96, b] 4 ∧
  NoopRow (.styZp b) [0x84, b] 3 ∧
  NoopRow (.styAbs (wordOf h b)) [0x8C, b, h] 4 ∧
  NoopRow (.styZpX b) [0x94, b] 4

/-- Each opcode of JMP, JSR, RTI, RTS, PHA, PHP, PLA and PLP decodes from its byte and, from every state, answers the
next state in which the event Unimplemented(op, opaddr) is emitted, PC is past the instruction, CYC grows by the
base cost, and nothing else changes: no operand is read, no register, flag or memory cell is written. Rules R135,
R136, R141, R142, R143, R144, R147, R148. -/
def Obligations.JumpsReturnsAndStackOpcodesAreNoops : Prop :=
  ∀ b h : Byte,
  NoopRow (.jmpAbs (wordOf h b)) [0x4C, b, h] 3 ∧
  NoopRow (.jmpInd (wordOf h b)) [0x6C, b, h] 5 ∧
  NoopRow (.jsrAbs (wordOf h b)) [0x20, b, h] 6 ∧
  NoopRow .pha [0x48] 3 ∧
  NoopRow .php [0x08] 3 ∧
  NoopRow .pla [0x68] 4 ∧
  NoopRow .plp [0x28] 4 ∧
  NoopRow .rti [0x40] 6 ∧
  NoopRow .rts [0x60] 6

/-- Every well-formed instruction whose table entry is unimplemented (112 opcodes, 35 mnemonics: ADC, BIT, CLC, CLD,
CLI, CLV, CMP, CPX, CPY, DEC, DEY, EOR, INC, INY, JMP, JSR, LDX, LDY, LSR, ORA, PHA, PHP, PLA, PLP, ROL, ROR, RTI,
RTS, SBC, SEC, SED, SEI, STA, STX, STY) answers the next state in which the event is emitted, PC is advanced by the
entry's size and CYC by its base cost, and nothing else changes. Rules R119. -/
def Obligations.UnimplementedOpcodesAreTheCommonNoop : Prop :=
  ∀ (i : Instr) (s : State), i.wellFormed = true → i.entry.kind = .unimplemented →
  exec i s = .next
    { s with
      pc := s.pc + BitVec.ofNat 16 i.entry.size
      cyc := s.cyc + i.entry.cycles
      diag := ⟨i.opcode, s.pc⟩ :: s.diag }

/-- A byte whose table entry is undefined decodes, alone, to the undefined instruction of that byte, and that
instruction answers, from every state, the next state in which FAULT holds the byte and its address and nothing else
changes: PC, the registers, P, CYC and memory keep their values. That this answer is a next state, where the spec
calls DecodeError a fault (log 7), and that the undefined bytes share one instruction (log 12), are the model's
choices. Rests on 60_exceptions.md section 2 (R157, R158); 30_encoding.md section 2 (R60). -/
def Obligations.UndefinedByteLatchesTheFault : Prop :=
  ∀ op : Byte,
  ((opEntry op).kind = .undefined → decode [op] = .ok (.undefined op, [])) ∧
  ∀ s, exec (.undefined op) s = .next { s with fault := some ⟨op, s.pc⟩ }

/-- One word of each family, written out from R53, R54 and R63, decodes to the instruction it stands for, operand bytes
low byte first. Rests on 30_encoding.md sections 1 and 3 (R53, R54, R63). -/
def Obligations.SpecWordsDecode : Prop :=
  decode [0xA9, 0x05] = .ok (.ldaImm 0x05, []) ∧
  decode [0xBD, 0x34, 0x12] = .ok (.ldaAbsX 0x1234, []) ∧
  decode [0x31, 0x40] = .ok (.andIndY 0x40, []) ∧
  decode [0x0E, 0x00, 0x20] = .ok (.aslAbs 0x2000, []) ∧
  decode [0xAA] = .ok (.tax, []) ∧
  decode [0xF0, 0x02] = .ok (.beq 0x02, []) ∧
  decode [0x00] = .ok (.brk, []) ∧
  decode [0xEA, 0xEA] = .ok (.nop, [0xEA]) ∧
  decode [0x6C, 0x34, 0x12] = .ok (.jmpInd 0x1234, []) ∧
  decode [0x96, 0x10] = .ok (.stxZpY 0x10, []) ∧
  decode [0x02] = .ok (.undefined 0x02, [])

/-- For every well-formed instruction, with every operand at every value, and any bytes after it, the decoder reads
exactly that instruction and leaves exactly those bytes. Rests on 30_encoding.md section 1 (R53 to R55). -/
def Obligations.DecodeOfEncodeIsTheInstruction : Prop :=
  ∀ (i : Instr) (rest : List Byte), i.wellFormed = true → decode (encode i ++ rest) = .ok (i, rest)

/-- If the decoder reads an instruction from some bytes, the instruction is well formed and its encoding followed by
what was left is those bytes: no bit of an encoding is dropped and no two words are confused. Rests on
30_encoding.md section 1 (R53 to R55). -/
def Obligations.EncodeOfDecodeIsTheBytes : Prop :=
  ∀ (bytes : List Byte) (i : Instr) (rest : List Byte),
  decode bytes = .ok (i, rest) → encode i ++ rest = bytes ∧ i.wellFormed = true

/-- No bytes at all are rejected, with the error noOpcode. A list that begins with an opcode byte is rejected, with any
error, exactly when it is shorter than the size the table gives that byte, and the error is then missingOperand of
that byte. An undefined byte is never rejected: it decodes, whatever follows, to the undefined instruction of that
byte and takes no byte after it. The size 0 of its table entry, for which the spec gives none, is the model's choice
(log 16), and so is the one instruction of the undefined bytes (log 12). Rests on 30_encoding.md sections 1 and 2
(R55, R60). -/
def Obligations.DecoderRejectsOnlyMissingBytes : Prop :=
  decode [] = .error .noOpcode ∧
  ∀ (op : Byte) (rest : List Byte),
    ((∃ r, decode (op :: rest) = .error r) ↔ rest.length + 1 < (opEntry op).size) ∧
    (rest.length + 1 < (opEntry op).size → decode (op :: rest) = .error (.missingOperand op)) ∧
    ((opEntry op).kind = .undefined → decode (op :: rest) = .ok (.undefined op, rest))

/-- Counted over the 256 byte values, the kinds of OPTABLE are 39 implemented, 112 unimplemented and 105 undefined.
Rests on 30_encoding.md section 2 (R58, R59, R60). -/
def Obligations.KindsAreCounted : Prop :=
  ((List.range 256).countP fun n => (opEntry (BitVec.ofNat 8 n)).kind == .implemented) = 39 ∧
  ((List.range 256).countP fun n => (opEntry (BitVec.ofNat 8 n)).kind == .unimplemented) = 112 ∧
  ((List.range 256).countP fun n => (opEntry (BitVec.ofNat 8 n)).kind == .undefined) = 105

/-- If FAULT is clear and the bytes at PC, after the key of this step was written, decode to an instruction, it is well
formed and the step is its meaning at that state, whether or not P.B is set. The only things the step adds are the
key write and the use of one coming key (log 5); the meaning itself moves PC. Rests on 40_execution.md section 1
(R65 to R69); 40_execution.md section 5 (R77). -/
def Obligations.StepRunsTheDecodedInstruction : Prop :=
  ∀ (s : State) (i : Instr) (rest : List Byte), s.fault = none →
  let s1 := s.dropKey.writeKey s.nextKey
  decode (fetchBytes s1) = .ok (i, rest) →
  i.wellFormed = true ∧ step s = exec i s1

/-- From every state and with every key, the step that decodes an instruction and runs its own meaning is the step of
the pseudocode: look the opcode byte up in OPTABLE, resolve its mode by reading memory at PC, run its mnemonic's
handler, advance PC by the entry's size unless the handler moved it, and add the entry's cycles. How the two steps
answer is the model's choice (log 7): the step that raises DecodeError answers a next state with FAULT set, and a
step of a faulted core the fault decodeError. Rests on 40_execution.md section 1 (R65). -/
def Obligations.StepIsTheStepAsWritten : Prop :=
  ∀ (key : Option Byte) (s : State), stepKey key s = stepAsWritten key s

/-- With FAULT clear and a key argument next in line, the step fetches and runs the instruction at the state in which
INPUT_ADDR holds the key (or is unchanged if the argument is none), every other byte reads as before and nothing
else but the used argument changed. INPUT_ADDR is left open; the list of coming arguments, of which the step uses
the first, is the model's choice (log 5). Rests on 40_execution.md section 1 (R67). -/
def Obligations.KeyIsWrittenBeforeTheFetch : Prop :=
  ∀ (s : State) (key : Option Byte) (keys : List (Option Byte)), s.fault = none → s.keys = key :: keys →
  let s1 := s.dropKey.writeKey key
  step s = exec (fetch s1) s1 ∧
  (∀ b, Memory.read s1.mem b = if b = Config.inputAddr then key.getD (Memory.read s.mem b) else Memory.read s.mem b) ∧
  s1 = { s with keys := keys, mem := s1.mem }

/-- If the latch FAULT is set, a step, with any key, answers no next state but the DecodeError of the latched opcode and
address. That this answer is a fault outcome, which carries no state, is the model's form of "changes nothing" (log
7). Rests on 40_execution.md section 1 (R66); 60_exceptions.md section 2 (R159). -/
def Obligations.FaultedCoreChangesNothing : Prop :=
  ∀ (s : State) (f : OpAt) (key : Option Byte), s.fault = some f →
  stepKey key s = .fault (.decodeError f.op f.addr) ∧ step s = .fault (.decodeError f.op f.addr) ∧
  stepResult (step s) = some (.decodeError f)

/-- If FAULT is clear and the byte at PC (after the key write) is undefined, the step latches that byte and its address
in FAULT, returns DecodeError with them, and changes nothing else but the key write: PC, A, X, Y, SP, P and CYC keep
their values. That this step answers a next state, from which the result DecodeError is read off, is the model's
choice (log 7). Rests on 60_exceptions.md section 2 (R157, R158). -/
def Obligations.UndefinedFetchIsPrecise : Prop :=
  ∀ (key : Option Byte) (s : State), s.fault = none →
  (opEntry (Memory.read (s.writeKey key).mem s.pc)).kind = .undefined →
  let f : OpAt := ⟨Memory.read (s.writeKey key).mem s.pc, s.pc⟩
  stepKey key s = .next { s.writeKey key with fault := some f } ∧
  stepResult (stepKey key s) = some (.decodeError f) ∧
  ∀ b, b ≠ Config.inputAddr → Memory.read (s.writeKey key).mem b = Memory.read s.mem b

/-- A step on a faulted core returns the latched DecodeError; otherwise, if the fetched byte is undefined, DecodeError
with it and its address; otherwise Ok. It never refuses. How the result is read off the answer of a step, the
raising step being a next state and a step of a faulted core a fault, is the model's choice (log 7). Rests on
40_execution.md section 4 (R75); 60_exceptions.md section 3 (R161). -/
def Obligations.StepResultIsOkOrDecodeError : Prop :=
  ∀ (key : Option Byte) (s : State),
  let op := Memory.read (s.writeKey key).mem s.pc
  stepResult (stepKey key s) = some (
    match s.fault with
    | some f => .decodeError f
    | none => if (opEntry op).kind = .undefined then .decodeError ⟨op, s.pc⟩ else .ok)

/-- Every instruction, defined or not, answers a next state from every state, and every step of a core whose latch is
clear answers a next state, halted or not: there is no memory, alignment, arithmetic or privilege fault and no
refusal. That an undefined byte, whose DecodeError the spec calls a fault and does not count as completed, answers a
next state (with FAULT set) is the model's choice (log 7). Rests on 60_exceptions.md section 1 (R156);
60_exceptions.md section 2 (R157); 40_execution.md section 5 (R77). -/
def Obligations.EveryInstructionCompletes : Prop :=
  (∀ (i : Instr) (s : State), ∃ t, exec i s = .next t) ∧
  ∀ s : State, s.fault = none → ∃ t, step s = .next t

/-- From every state with the invariant (memory in canonical form; a latched fault is that of an undefined byte still
standing at PC; only unimplemented opcodes are among the events), a step that answers a next state leads to a state
with the invariant. The canonical form of memory is the model's own representation (log 1), the list of emitted
events its own field (log 6), and that the step raising DecodeError answers a next state its own choice (log 7).
Rests on 20_memory.md section 2 (R37); 60_exceptions.md section 2 (R157, R158); 60_exceptions.md section 6 (R167). -/
def Obligations.InvariantIsKept : Prop :=
  ∀ s t : State, s.Inv → step s = .next t → t.Inv

/-- Whatever instruction a step runs, BRK and the no-ops SEI, CLI, SED, CLD, CLV, PLP and RTI included, the flags I, D,
V and U keep their values. Rests on 10_state.md section 2 (R24). -/
def Obligations.InertFlagsNeverChange : Prop :=
  ∀ (s t : State), step s = .next t →
  getFlag .i t.p = getFlag .i s.p ∧ getFlag .d t.p = getFlag .d s.p ∧
  getFlag .v t.p = getFlag .v s.p ∧ getFlag .u t.p = getFlag .u s.p

/-- After an instruction P.B is set if it was set before or the instruction is BRK, and not otherwise; so no step takes
a core out of the halted status. Rests on 10_state.md section 2 (R23); 60_exceptions.md section 4 (R165). -/
def Obligations.BreakFlagIsSetByBrkOnly : Prop :=
  (∀ (i : Instr) (s t : State), exec i s = .next t → getFlag .b t.p = (decide (i = .brk) || getFlag .b s.p)) ∧
  ∀ s t : State, step s = .next t → s.halted = true → t.halted = true

/-- Every instruction but ASL leaves C as it was, and every instruction but LDA, AND, ASL, INX, DEX, TAX, TAY, TXA, TYA
and TSX leaves Z and N as they were. Rests on 10_state.md section 2 (R21, R22). -/
def Obligations.FlagWriters : Prop :=
  ∀ (i : Instr) (s t : State), exec i s = .next t →
  (mnemonicOf i ≠ .asl → getFlag .c t.p = getFlag .c s.p) ∧
  (mnemonicOf i ∉ [.lda, .and, .asl, .inx, .dex, .tax, .tay, .txa, .tya, .tsx] →
    getFlag .z t.p = getFlag .z s.p ∧ getFlag .n t.p = getFlag .n s.p)

/-- A is written only by LDA, AND, ASL in its accumulator form, TXA and TYA; X only by INX, DEX, TAX and TSX; Y only by
TAY; SP only by TXS and the pushes of BRK. Rests on 10_state.md section 1 (R16, R17, R18); 10_state.md section 3
(R26). -/
def Obligations.RegisterWriters : Prop :=
  ∀ (i : Instr) (s t : State), exec i s = .next t →
  (mnemonicOf i ∉ [.lda, .and, .txa, .tya] → i ≠ .aslAcc → t.a = s.a) ∧
  (mnemonicOf i ∉ [.inx, .dex, .tax, .tsx] → t.x = s.x) ∧
  (mnemonicOf i ≠ .tay → t.y = s.y) ∧
  (mnemonicOf i ∉ [.txs, .brk] → t.sp = s.sp)

/-- An ASL memory form leaves every byte but the one at the address its own mode resolves to; BRK leaves every byte but
those at SP, SP - 1 and SP - 2; every other instruction, STA, STX, STY, INC, DEC, PHA, PHP and JSR included, leaves
every byte of memory as it was. Rests on 20_memory.md section 3 (R43). -/
def Obligations.MemoryFrame : Prop :=
  ∀ (i : Instr) (s t : State), exec i s = .next t →
  (∀ a, storesAt i s = some (.address a) → ∀ b, b ≠ a → Memory.read t.mem b = Memory.read s.mem b) ∧
  (i = .brk → ∀ b, b ≠ s.sp → b ≠ s.sp - 1 → b ≠ s.sp - 2 → Memory.read t.mem b = Memory.read s.mem b) ∧
  (storesAt i s = none → i ≠ .brk → ∀ b, Memory.read t.mem b = Memory.read s.mem b)

/-- A well-formed instruction that is neither BRK nor a taken branch ends with PC at opaddr plus the entry's size mod
2^16 (JMP, JSR, RTS and RTI fall through); an undefined byte, which raises DecodeError, leaves PC (R68, R158). BRK
and the taken branches have statements of their own. Rests on 40_execution.md section 4 (R73);
45_nop_unimplemented.md section 1 (R119); 40_execution.md section 1 (R68); 60_exceptions.md section 2 (R158). -/
def Obligations.ProgramCounterAdvancesBySize : Prop :=
  ∀ (i : Instr) (s t : State), i.wellFormed = true → exec i s = .next t → i ≠ .brk →
  ((i.entry.kind = .undefined → t.pc = s.pc) ∧
   (i.entry.kind ≠ .undefined →
     (∀ flag want off, branchOf i = some (flag, want, off) → getFlag flag s.p ≠ want) →
     t.pc = s.pc + BitVec.ofNat 16 i.entry.size))

/-- Every well-formed instruction adds to CYC its base cost, plus one on a page cross if it is one of the six
implemented opcodes with the tag, plus one if it is a taken branch and one more if the target changes page; an
undefined byte adds 0. Every defined instruction adds at least 2. Rests on 70_reset_and_hazards.md section 4 (R185,
R186); 40_execution.md section 4 (R74). -/
def Obligations.CyclesAreCharged : Prop :=
  ∀ (i : Instr) (s t : State), i.wellFormed = true → exec i s = .next t →
  t.cyc = s.cyc + costOf i s ∧ (i.entry.kind ≠ .undefined → s.cyc + 2 ≤ t.cyc)

/-- Two states that differ only in CYC and in the events emitted so far step to states that differ only in these: every
register, every byte of memory, every PC and the latch are the same. Rests on 70_reset_and_hazards.md section 4
(R185); 60_exceptions.md section 6 (R167); 10_state.md section 5 (R30). -/
def Obligations.CyclesAndEventsInfluenceNothing : Prop :=
  ∀ (s t : State) (c : Nat) (d : List OpAt), step s = .next t →
  ∃ c' d', step { s with cyc := c, diag := d } = .next { t with cyc := c', diag := d' }

/-- A well-formed instruction emits Unimplemented(op, opaddr) if its entry is unimplemented, and no event otherwise; NOP
emits none. Rests on 60_exceptions.md section 6 (R167); 40_execution.md section 3 (R72). -/
def Obligations.EventsComeFromUnimplementedOpcodes : Prop :=
  ∀ (i : Instr) (s t : State), i.wellFormed = true → exec i s = .next t →
  t.diag = if i.entry.kind = .unimplemented then ⟨i.opcode, s.pc⟩ :: s.diag else s.diag

/-- A well-formed instruction writes the latch FAULT if its byte is undefined and only then, with the byte and its
address, and never clears it. It leaves the host's coming key arguments, a field of the model's own, to the steps
that use them: that is the model's choice (log 5). Rests on 10_state.md section 5 (R31); 60_exceptions.md section 2
(R159). -/
def Obligations.LatchAndInputsFrame : Prop :=
  ∀ (i : Instr) (s t : State), i.wellFormed = true → exec i s = .next t →
  t.keys = s.keys ∧ t.fault = if i.entry.kind = .undefined then some ⟨i.opcode, s.pc⟩ else s.fault

/-- An image that fits below 0x10000 is copied upwards from start, then the reset vector is set to start (overwriting
image bytes there), every other byte and all registers are unchanged; an image that would run past 0xFFFF is
refused. Rules R170. -/
def Obligations.LoadCopiesThenPointsTheVector : Prop :=
  ∀ (bytes : List Byte) (start : Word) (s : State),
  if start.toNat + bytes.length ≤ 65536 then
    ∃ t, hostLoad bytes start s = .next t ∧
      Memory.read t.mem 0xFFFC = BitVec.ofNat 8 start.toNat ∧
      Memory.read t.mem 0xFFFD = BitVec.ofNat 8 (start.toNat / 256) ∧
      (∀ b : Word, b ≠ 0xFFFC → b ≠ 0xFFFD → Memory.read t.mem b =
        if start.toNat ≤ b.toNat ∧ b.toNat < start.toNat + bytes.length then bytes.getD (b.toNat - start.toNat) 0
        else Memory.read s.mem b) ∧
      t = { s with mem := t.mem }
  else hostLoad bytes start s = .refused .imageTooLong

/-- SetPC(v) writes PC and changes nothing else; Framebuffer() has 1024 bytes, byte n being that at (FB_BASE + n) mod
2^16, FB_BASE left open. Rests on 60_exceptions.md section 7 (R172, R173). -/
def Obligations.SetPCAndFramebuffer : Prop :=
  ∀ (s : State) (v : Word),
  hostSetPC v s = { s with pc := v } ∧
  (hostFramebuffer s).length = 1024 ∧
  ∀ n, n < 1024 → (hostFramebuffer s)[n]? = some (Memory.read s.mem (Config.fbBase + BitVec.ofNat 16 n))

/-- Run of a halted core performs no step and answers halted. Of a faulted core, halted or not, it returns the latched
DecodeError and performs no step. Otherwise it performs Step(none) and goes on, or returns the DecodeError the step
raised. That of a core both halted and faulted it reports the two together, Halted as R76 says and the DecodeError
as R159 says, is the model's choice (log 19), and so is the bound on the number of steps (log 17). Rests on
40_execution.md section 5 (R76); 60_exceptions.md section 2 (R159). -/
def Obligations.RunTestsBreakBeforeEachStep : Prop :=
  ∀ (n : Nat) (s t : State) (f : OpAt),
  (s.halted = true → hostRun n s = .halted s.fault s) ∧
  (s.halted = false → s.fault = some f → hostRun n s = .decodeError f s) ∧
  (s.fault = some f → (hostRun n s).returnedError = some f) ∧
  (s.halted = false → stepKey none s = .next t → t.fault = none → hostRun (n + 1) s = hostRun n t) ∧
  (s.halted = false → stepKey none s = .next t → t.fault = some f → hostRun (n + 1) s = .decodeError f t)

/-- A Run that reaches a BRK with P.B and FAULT clear ends, halted, in the state the BRK leaves, whose PC is the word at
the BRK vector; the instruction at the vector target has not executed. Rests on 60_exceptions.md section 4 (R164);
40_execution.md section 5 (R76). -/
def Obligations.BrkEndsRun : Prop :=
  ∀ (n : Nat) (s : State), s.halted = false → s.fault = none → Memory.read s.mem s.pc = 0x00 →
  ∃ t, exec .brk s = .next t ∧ t.halted = true ∧ t.pc = Memory.readWord t.mem Config.brkVector ∧
    hostRun (n + 1) s = .halted none t
end

