-- ==== Sys2Proof/Laws/Bits.lean ====
section
/-! SUPPORT. The notation of 00_scope R8 as arithmetic on numbers. -/

namespace Sys2Proof

theorem toNat_wordOf (hi lo : Byte) : (wordOf hi lo).toNat = hi.toNat * 256 + lo.toNat := by
  unfold wordOf
  rw [BitVec.toNat_append, ← Nat.shiftLeft_add_eq_or_of_lt (by omega), Nat.shiftLeft_eq]

theorem toNat_loByte (w : Word) : (loByte w).toNat = w.toNat % 256 := by
  simp [loByte]

theorem toNat_hiByte (w : Word) : (hiByte w).toNat = w.toNat / 256 := by
  have h := w.isLt
  simp [hiByte, Nat.shiftRight_eq_div_pow]
  omega

theorem toNat_zext16 (b : Byte) : (zext16 b).toNat = b.toNat := by
  have h := b.isLt
  simp [zext16]
  omega

/-- `sext_16` is the two's-complement value. -/
theorem toInt_sext16 (b : Byte) : (sext16 b).toInt = b.toInt := by
  revert b
  decide

@[simp] theorem wordOf_hiByte_loByte (w : Word) : wordOf (hiByte w) (loByte w) = w := by
  apply BitVec.eq_of_toNat_eq
  rw [toNat_wordOf, toNat_hiByte, toNat_loByte]
  omega

@[simp] theorem loByte_wordOf (hi lo : Byte) : loByte (wordOf hi lo) = lo := by
  have h := lo.isLt
  apply BitVec.eq_of_toNat_eq
  rw [toNat_loByte, toNat_wordOf]
  omega

@[simp] theorem hiByte_wordOf (hi lo : Byte) : hiByte (wordOf hi lo) = hi := by
  have h := lo.isLt
  apply BitVec.eq_of_toNat_eq
  rw [toNat_hiByte, toNat_wordOf]
  omega

/-- A word is what `ofNat` makes of its number. -/
theorem word_eq_ofNat {w : Word} {n : Nat} (h : w.toNat = n % 65536) : w = BitVec.ofNat 16 n :=
  BitVec.eq_of_toNat_eq (by simpa using h)

/-- A byte is what `ofNat` makes of its number. -/
theorem byte_eq_ofNat {b : Byte} {n : Nat} (h : b.toNat = n % 256) : b = BitVec.ofNat 8 n :=
  BitVec.eq_of_toNat_eq (by simpa using h)

end Sys2Proof
end

