-- ==== Sys2Proof/Laws/Flags.lean ====
section
/-! SUPPORT. Reading a flag after a flag write, so that no proof unfolds the bit operations on P. -/

namespace Sys2Proof.Machine

theorem Flag.bit_inj {f g : Flag} (h : f.bit = g.bit) : f = g := by
  cases f <;> cases g <;> simp_all [Flag.bit]

/-- A flag reads as written, and every other flag reads as before. -/
@[simp] theorem getFlag_setFlag (f g : Flag) (on : Bool) (p : Byte) :
    getFlag f (setFlag g on p) = if f = g then on else getFlag f p := by
  by_cases h : f = g
  · subst h
    cases f <;> cases on <;> simp [getFlag, setFlag, Flag.bit]
  · cases f <;> cases g <;> cases on <;> simp_all [getFlag, setFlag, Flag.bit]

/-- Two status bytes with the same eight flags are the same byte. -/
theorem status_ext {p q : Byte} (h : ∀ f, getFlag f p = getFlag f q) : p = q := by
  apply BitVec.eq_of_getLsbD_eq
  intro n hn
  interval_cases n
  · exact h .c
  · exact h .z
  · exact h .i
  · exact h .d
  · exact h .b
  · exact h .u
  · exact h .v
  · exact h .n

/-- Writing the value a flag has changes nothing. -/
theorem setFlag_getFlag (f : Flag) (p : Byte) : setFlag f (getFlag f p) p = p :=
  status_ext fun g => by by_cases h : g = f <;> simp [h]

end Sys2Proof.Machine
end

