-- ==== Sys2Proof/Laws/Memory.lean ====
section
/-! SUPPORT. MEM as a map: what a read answers after a write, and that every memory operation keeps the canonical form. -/

namespace Sys2Proof.Machine

theorem Memory.lookup_erase (m : Memory) (a b : Nat) :
    Memory.lookup (Memory.erase m a) b = if b = a then Memory.unlisted else Memory.lookup m b := by
  induction m with
  | nil => simp [Memory.erase, Memory.lookup]
  | cons c rest ih =>
    obtain ⟨k, v⟩ := c
    by_cases hka : k = a
    · subst hka
      by_cases hb : b = k
      · subst hb
        simpa [Memory.erase] using ih
      · simp [Memory.erase, Memory.lookup, ih, hb, Ne.symm hb]
    · by_cases hb : b = a
      · subst hb
        simp [Memory.erase, Memory.lookup, ih, hka]
      · simp [Memory.erase, Memory.lookup, ih, hka, hb]

theorem Memory.lookup_insert (m : Memory) (a b : Nat) (v : Byte) (h : ∀ c ∈ m, c.1 ≠ a) :
    Memory.lookup (Memory.insert m a v) b = if b = a then v else Memory.lookup m b := by
  induction m with
  | nil =>
    by_cases hb : b = a
    · simp [Memory.insert, Memory.lookup, hb]
    · simp [Memory.insert, Memory.lookup, hb, Ne.symm hb]
  | cons c rest ih =>
    obtain ⟨k, w⟩ := c
    have hk : k ≠ a := h (k, w) (by simp)
    have ih := ih fun c hc => h c (by simp [hc])
    by_cases hb : b = a
    · subst hb
      by_cases hlt : b < k <;> simp [Memory.insert, Memory.lookup, hlt, hk, ih]
    · by_cases hlt : a < k <;> simp [Memory.insert, Memory.lookup, hlt, hb, Ne.symm hb, ih]

theorem Memory.erase_avoids (m : Memory) (a : Nat) : ∀ c ∈ Memory.erase m a, c.1 ≠ a := by
  induction m with
  | nil => simp [Memory.erase]
  | cons c rest ih =>
    obtain ⟨k, w⟩ := c
    by_cases hk : k = a
    · simpa [Memory.erase, hk] using ih
    · simp only [Memory.erase, hk, if_false, List.mem_cons]
      rintro c (rfl | hc)
      · exact hk
      · exact ih c hc

/-- What a read answers after a byte write: the value written there, and what it answered before elsewhere. -/
@[simp] theorem Memory.read_write (m : Memory) (a b : Word) (v : Byte) :
    Memory.read (Memory.write m a v) b = if b = a then v else Memory.read m b := by
  unfold Memory.read Memory.write
  by_cases hv : v = Memory.unlisted
  · simp [hv, Memory.lookup_erase, BitVec.toNat_inj]
  · rw [if_neg hv, Memory.lookup_insert _ _ _ _ (Memory.erase_avoids m a.toNat), Memory.lookup_erase]
    by_cases hb : b = a
    · simp [hb]
    · simp [hb, mt BitVec.eq_of_toNat_eq hb]

theorem Memory.wfFrom_mono {m : Memory} {l l' : Nat} (h : Memory.wfFrom l m = true) (hl : l' ≤ l) :
    Memory.wfFrom l' m = true := by
  cases m with
  | nil => rfl
  | cons c rest =>
    obtain ⟨k, v⟩ := c
    simp only [Memory.wfFrom, Bool.and_eq_true, decide_eq_true_eq] at h ⊢
    exact ⟨⟨⟨by omega, h.1.1.2⟩, h.1.2⟩, h.2⟩

theorem Memory.wfFrom_erase (m : Memory) (l a : Nat) (h : Memory.wfFrom l m = true) :
    Memory.wfFrom l (Memory.erase m a) = true := by
  induction m generalizing l with
  | nil => rfl
  | cons c rest ih =>
    obtain ⟨k, v⟩ := c
    simp only [Memory.wfFrom, Bool.and_eq_true, decide_eq_true_eq] at h
    by_cases hk : k = a
    · simp only [Memory.erase, hk, if_true]
      exact ih l (Memory.wfFrom_mono h.2 (by omega))
    · simp only [Memory.erase, hk, if_false, Memory.wfFrom, Bool.and_eq_true, decide_eq_true_eq]
      exact ⟨h.1, ih (k + 1) h.2⟩

theorem Memory.wfFrom_insert (m : Memory) (l a : Nat) (v : Byte) (h : Memory.wfFrom l m = true) (hl : l ≤ a)
    (ha : a < 65536) (hv : v ≠ Memory.unlisted) (hn : ∀ c ∈ m, c.1 ≠ a) :
    Memory.wfFrom l (Memory.insert m a v) = true := by
  induction m generalizing l with
  | nil => simp [Memory.insert, Memory.wfFrom, hl, ha, hv]
  | cons c rest ih =>
    obtain ⟨k, w⟩ := c
    have hk : k ≠ a := hn (k, w) (by simp)
    simp only [Memory.wfFrom, Bool.and_eq_true, decide_eq_true_eq] at h
    by_cases hlt : a < k
    · simp only [Memory.insert, hlt, if_true, Memory.wfFrom, Bool.and_eq_true, decide_eq_true_eq]
      exact ⟨⟨⟨hl, ha⟩, hv⟩, ⟨⟨⟨by omega, h.1.1.2⟩, h.1.2⟩, h.2⟩⟩
    · simp only [Memory.insert, hlt, if_false, Memory.wfFrom, Bool.and_eq_true, decide_eq_true_eq]
      exact ⟨h.1, ih (k + 1) h.2 (by omega) fun c hc => hn c (by simp [hc])⟩

/-- A byte write keeps the canonical form. -/
theorem Memory.wf_write {m : Memory} (h : Memory.wf m = true) (a : Word) (v : Byte) :
    Memory.wf (Memory.write m a v) = true := by
  unfold Memory.write
  by_cases hv : v = Memory.unlisted
  · rw [if_pos hv]
    exact Memory.wfFrom_erase m 0 a.toNat h
  · rw [if_neg hv]
    exact Memory.wfFrom_insert _ _ _ _ (Memory.wfFrom_erase m 0 a.toNat h) (Nat.zero_le _) a.isLt hv
      (Memory.erase_avoids m a.toNat)

/-- A word write keeps the canonical form. -/
theorem Memory.wf_writeWord {m : Memory} (h : Memory.wf m = true) (a w : Word) :
    Memory.wf (Memory.writeWord m a w) = true :=
  Memory.wf_write (Memory.wf_write h _ _) _ _

/-- Writing consecutive bytes keeps the canonical form. -/
theorem Memory.wf_writeBytes {m : Memory} (h : Memory.wf m = true) (a : Word) (bytes : List Byte) :
    Memory.wf (Memory.writeBytes m a bytes) = true := by
  induction bytes generalizing m a with
  | nil => exact h
  | cons b rest ih => exact ih (Memory.wf_write h a b) (a + 1)

/-- The memory of `State.reset` has the canonical form. -/
theorem Memory.wf_nil : Memory.wf [] = true := rfl

end Sys2Proof.Machine
end

