-- ==== Sys2Proof/Laws/State.lean ====
section
/-! SUPPORT. Each named update of the state, field by field, so that no proof unfolds a record update. -/

namespace Sys2Proof.Machine

variable (s : State)

@[simp] theorem State.setA_a (v : Byte) : (s.setA v).a = v := rfl
@[simp] theorem State.setA_x (v : Byte) : (s.setA v).x = s.x := rfl
@[simp] theorem State.setA_y (v : Byte) : (s.setA v).y = s.y := rfl
@[simp] theorem State.setA_p (v : Byte) : (s.setA v).p = s.p := rfl
@[simp] theorem State.setA_sp (v : Byte) : (s.setA v).sp = s.sp := rfl
@[simp] theorem State.setA_pc (v : Byte) : (s.setA v).pc = s.pc := rfl
@[simp] theorem State.setA_cyc (v : Byte) : (s.setA v).cyc = s.cyc := rfl
@[simp] theorem State.setA_fault (v : Byte) : (s.setA v).fault = s.fault := rfl
@[simp] theorem State.setA_mem (v : Byte) : (s.setA v).mem = s.mem := rfl
@[simp] theorem State.setA_keys (v : Byte) : (s.setA v).keys = s.keys := rfl
@[simp] theorem State.setA_diag (v : Byte) : (s.setA v).diag = s.diag := rfl

@[simp] theorem State.setX_a (v : Byte) : (s.setX v).a = s.a := rfl
@[simp] theorem State.setX_x (v : Byte) : (s.setX v).x = v := rfl
@[simp] theorem State.setX_y (v : Byte) : (s.setX v).y = s.y := rfl
@[simp] theorem State.setX_p (v : Byte) : (s.setX v).p = s.p := rfl
@[simp] theorem State.setX_sp (v : Byte) : (s.setX v).sp = s.sp := rfl
@[simp] theorem State.setX_pc (v : Byte) : (s.setX v).pc = s.pc := rfl
@[simp] theorem State.setX_cyc (v : Byte) : (s.setX v).cyc = s.cyc := rfl
@[simp] theorem State.setX_fault (v : Byte) : (s.setX v).fault = s.fault := rfl
@[simp] theorem State.setX_mem (v : Byte) : (s.setX v).mem = s.mem := rfl
@[simp] theorem State.setX_keys (v : Byte) : (s.setX v).keys = s.keys := rfl
@[simp] theorem State.setX_diag (v : Byte) : (s.setX v).diag = s.diag := rfl

@[simp] theorem State.setY_a (v : Byte) : (s.setY v).a = s.a := rfl
@[simp] theorem State.setY_x (v : Byte) : (s.setY v).x = s.x := rfl
@[simp] theorem State.setY_y (v : Byte) : (s.setY v).y = v := rfl
@[simp] theorem State.setY_p (v : Byte) : (s.setY v).p = s.p := rfl
@[simp] theorem State.setY_sp (v : Byte) : (s.setY v).sp = s.sp := rfl
@[simp] theorem State.setY_pc (v : Byte) : (s.setY v).pc = s.pc := rfl
@[simp] theorem State.setY_cyc (v : Byte) : (s.setY v).cyc = s.cyc := rfl
@[simp] theorem State.setY_fault (v : Byte) : (s.setY v).fault = s.fault := rfl
@[simp] theorem State.setY_mem (v : Byte) : (s.setY v).mem = s.mem := rfl
@[simp] theorem State.setY_keys (v : Byte) : (s.setY v).keys = s.keys := rfl
@[simp] theorem State.setY_diag (v : Byte) : (s.setY v).diag = s.diag := rfl

@[simp] theorem State.setP_a (v : Byte) : (s.setP v).a = s.a := rfl
@[simp] theorem State.setP_x (v : Byte) : (s.setP v).x = s.x := rfl
@[simp] theorem State.setP_y (v : Byte) : (s.setP v).y = s.y := rfl
@[simp] theorem State.setP_p (v : Byte) : (s.setP v).p = v := rfl
@[simp] theorem State.setP_sp (v : Byte) : (s.setP v).sp = s.sp := rfl
@[simp] theorem State.setP_pc (v : Byte) : (s.setP v).pc = s.pc := rfl
@[simp] theorem State.setP_cyc (v : Byte) : (s.setP v).cyc = s.cyc := rfl
@[simp] theorem State.setP_fault (v : Byte) : (s.setP v).fault = s.fault := rfl
@[simp] theorem State.setP_mem (v : Byte) : (s.setP v).mem = s.mem := rfl
@[simp] theorem State.setP_keys (v : Byte) : (s.setP v).keys = s.keys := rfl
@[simp] theorem State.setP_diag (v : Byte) : (s.setP v).diag = s.diag := rfl

@[simp] theorem State.setSP_a (v : Word) : (s.setSP v).a = s.a := rfl
@[simp] theorem State.setSP_x (v : Word) : (s.setSP v).x = s.x := rfl
@[simp] theorem State.setSP_y (v : Word) : (s.setSP v).y = s.y := rfl
@[simp] theorem State.setSP_p (v : Word) : (s.setSP v).p = s.p := rfl
@[simp] theorem State.setSP_sp (v : Word) : (s.setSP v).sp = v := rfl
@[simp] theorem State.setSP_pc (v : Word) : (s.setSP v).pc = s.pc := rfl
@[simp] theorem State.setSP_cyc (v : Word) : (s.setSP v).cyc = s.cyc := rfl
@[simp] theorem State.setSP_fault (v : Word) : (s.setSP v).fault = s.fault := rfl
@[simp] theorem State.setSP_mem (v : Word) : (s.setSP v).mem = s.mem := rfl
@[simp] theorem State.setSP_keys (v : Word) : (s.setSP v).keys = s.keys := rfl
@[simp] theorem State.setSP_diag (v : Word) : (s.setSP v).diag = s.diag := rfl

@[simp] theorem State.setPC_a (v : Word) : (s.setPC v).a = s.a := rfl
@[simp] theorem State.setPC_x (v : Word) : (s.setPC v).x = s.x := rfl
@[simp] theorem State.setPC_y (v : Word) : (s.setPC v).y = s.y := rfl
@[simp] theorem State.setPC_p (v : Word) : (s.setPC v).p = s.p := rfl
@[simp] theorem State.setPC_sp (v : Word) : (s.setPC v).sp = s.sp := rfl
@[simp] theorem State.setPC_pc (v : Word) : (s.setPC v).pc = v := rfl
@[simp] theorem State.setPC_cyc (v : Word) : (s.setPC v).cyc = s.cyc := rfl
@[simp] theorem State.setPC_fault (v : Word) : (s.setPC v).fault = s.fault := rfl
@[simp] theorem State.setPC_mem (v : Word) : (s.setPC v).mem = s.mem := rfl
@[simp] theorem State.setPC_keys (v : Word) : (s.setPC v).keys = s.keys := rfl
@[simp] theorem State.setPC_diag (v : Word) : (s.setPC v).diag = s.diag := rfl

@[simp] theorem State.addCyc_a (n : Nat) : (s.addCyc n).a = s.a := rfl
@[simp] theorem State.addCyc_x (n : Nat) : (s.addCyc n).x = s.x := rfl
@[simp] theorem State.addCyc_y (n : Nat) : (s.addCyc n).y = s.y := rfl
@[simp] theorem State.addCyc_p (n : Nat) : (s.addCyc n).p = s.p := rfl
@[simp] theorem State.addCyc_sp (n : Nat) : (s.addCyc n).sp = s.sp := rfl
@[simp] theorem State.addCyc_pc (n : Nat) : (s.addCyc n).pc = s.pc := rfl
@[simp] theorem State.addCyc_cyc (n : Nat) : (s.addCyc n).cyc = s.cyc + n := rfl
@[simp] theorem State.addCyc_fault (n : Nat) : (s.addCyc n).fault = s.fault := rfl
@[simp] theorem State.addCyc_mem (n : Nat) : (s.addCyc n).mem = s.mem := rfl
@[simp] theorem State.addCyc_keys (n : Nat) : (s.addCyc n).keys = s.keys := rfl
@[simp] theorem State.addCyc_diag (n : Nat) : (s.addCyc n).diag = s.diag := rfl

@[simp] theorem State.setFault_a (v : Option OpAt) : (s.setFault v).a = s.a := rfl
@[simp] theorem State.setFault_x (v : Option OpAt) : (s.setFault v).x = s.x := rfl
@[simp] theorem State.setFault_y (v : Option OpAt) : (s.setFault v).y = s.y := rfl
@[simp] theorem State.setFault_p (v : Option OpAt) : (s.setFault v).p = s.p := rfl
@[simp] theorem State.setFault_sp (v : Option OpAt) : (s.setFault v).sp = s.sp := rfl
@[simp] theorem State.setFault_pc (v : Option OpAt) : (s.setFault v).pc = s.pc := rfl
@[simp] theorem State.setFault_cyc (v : Option OpAt) : (s.setFault v).cyc = s.cyc := rfl
@[simp] theorem State.setFault_fault (v : Option OpAt) : (s.setFault v).fault = v := rfl
@[simp] theorem State.setFault_mem (v : Option OpAt) : (s.setFault v).mem = s.mem := rfl
@[simp] theorem State.setFault_keys (v : Option OpAt) : (s.setFault v).keys = s.keys := rfl
@[simp] theorem State.setFault_diag (v : Option OpAt) : (s.setFault v).diag = s.diag := rfl

@[simp] theorem State.setMem_a (m : Memory) : (s.setMem m).a = s.a := rfl
@[simp] theorem State.setMem_x (m : Memory) : (s.setMem m).x = s.x := rfl
@[simp] theorem State.setMem_y (m : Memory) : (s.setMem m).y = s.y := rfl
@[simp] theorem State.setMem_p (m : Memory) : (s.setMem m).p = s.p := rfl
@[simp] theorem State.setMem_sp (m : Memory) : (s.setMem m).sp = s.sp := rfl
@[simp] theorem State.setMem_pc (m : Memory) : (s.setMem m).pc = s.pc := rfl
@[simp] theorem State.setMem_cyc (m : Memory) : (s.setMem m).cyc = s.cyc := rfl
@[simp] theorem State.setMem_fault (m : Memory) : (s.setMem m).fault = s.fault := rfl
@[simp] theorem State.setMem_mem (m : Memory) : (s.setMem m).mem = m := rfl
@[simp] theorem State.setMem_keys (m : Memory) : (s.setMem m).keys = s.keys := rfl
@[simp] theorem State.setMem_diag (m : Memory) : (s.setMem m).diag = s.diag := rfl

@[simp] theorem State.setKeys_a (ks : List (Option Byte)) : (s.setKeys ks).a = s.a := rfl
@[simp] theorem State.setKeys_x (ks : List (Option Byte)) : (s.setKeys ks).x = s.x := rfl
@[simp] theorem State.setKeys_y (ks : List (Option Byte)) : (s.setKeys ks).y = s.y := rfl
@[simp] theorem State.setKeys_p (ks : List (Option Byte)) : (s.setKeys ks).p = s.p := rfl
@[simp] theorem State.setKeys_sp (ks : List (Option Byte)) : (s.setKeys ks).sp = s.sp := rfl
@[simp] theorem State.setKeys_pc (ks : List (Option Byte)) : (s.setKeys ks).pc = s.pc := rfl
@[simp] theorem State.setKeys_cyc (ks : List (Option Byte)) : (s.setKeys ks).cyc = s.cyc := rfl
@[simp] theorem State.setKeys_fault (ks : List (Option Byte)) : (s.setKeys ks).fault = s.fault := rfl
@[simp] theorem State.setKeys_mem (ks : List (Option Byte)) : (s.setKeys ks).mem = s.mem := rfl
@[simp] theorem State.setKeys_keys (ks : List (Option Byte)) : (s.setKeys ks).keys = ks := rfl
@[simp] theorem State.setKeys_diag (ks : List (Option Byte)) : (s.setKeys ks).diag = s.diag := rfl

@[simp] theorem State.emit_a (e : OpAt) : (s.emit e).a = s.a := rfl
@[simp] theorem State.emit_x (e : OpAt) : (s.emit e).x = s.x := rfl
@[simp] theorem State.emit_y (e : OpAt) : (s.emit e).y = s.y := rfl
@[simp] theorem State.emit_p (e : OpAt) : (s.emit e).p = s.p := rfl
@[simp] theorem State.emit_sp (e : OpAt) : (s.emit e).sp = s.sp := rfl
@[simp] theorem State.emit_pc (e : OpAt) : (s.emit e).pc = s.pc := rfl
@[simp] theorem State.emit_cyc (e : OpAt) : (s.emit e).cyc = s.cyc := rfl
@[simp] theorem State.emit_fault (e : OpAt) : (s.emit e).fault = s.fault := rfl
@[simp] theorem State.emit_mem (e : OpAt) : (s.emit e).mem = s.mem := rfl
@[simp] theorem State.emit_keys (e : OpAt) : (s.emit e).keys = s.keys := rfl
@[simp] theorem State.emit_diag (e : OpAt) : (s.emit e).diag = e :: s.diag := rfl

@[simp] theorem State.writeByte_a (addr : Word) (v : Byte) : (s.writeByte addr v).a = s.a := rfl
@[simp] theorem State.writeByte_x (addr : Word) (v : Byte) : (s.writeByte addr v).x = s.x := rfl
@[simp] theorem State.writeByte_y (addr : Word) (v : Byte) : (s.writeByte addr v).y = s.y := rfl
@[simp] theorem State.writeByte_p (addr : Word) (v : Byte) : (s.writeByte addr v).p = s.p := rfl
@[simp] theorem State.writeByte_sp (addr : Word) (v : Byte) : (s.writeByte addr v).sp = s.sp := rfl
@[simp] theorem State.writeByte_pc (addr : Word) (v : Byte) : (s.writeByte addr v).pc = s.pc := rfl
@[simp] theorem State.writeByte_cyc (addr : Word) (v : Byte) : (s.writeByte addr v).cyc = s.cyc := rfl
@[simp] theorem State.writeByte_fault (addr : Word) (v : Byte) : (s.writeByte addr v).fault = s.fault := rfl
@[simp] theorem State.writeByte_mem (addr : Word) (v : Byte) : (s.writeByte addr v).mem = Memory.write s.mem addr v := rfl
@[simp] theorem State.writeByte_keys (addr : Word) (v : Byte) : (s.writeByte addr v).keys = s.keys := rfl
@[simp] theorem State.writeByte_diag (addr : Word) (v : Byte) : (s.writeByte addr v).diag = s.diag := rfl

@[simp] theorem State.updateZN_a (r : Byte) : (s.updateZN r).a = s.a := rfl
@[simp] theorem State.updateZN_x (r : Byte) : (s.updateZN r).x = s.x := rfl
@[simp] theorem State.updateZN_y (r : Byte) : (s.updateZN r).y = s.y := rfl
@[simp] theorem State.updateZN_p (r : Byte) : (s.updateZN r).p = Machine.updateZN r s.p := rfl
@[simp] theorem State.updateZN_sp (r : Byte) : (s.updateZN r).sp = s.sp := rfl
@[simp] theorem State.updateZN_pc (r : Byte) : (s.updateZN r).pc = s.pc := rfl
@[simp] theorem State.updateZN_cyc (r : Byte) : (s.updateZN r).cyc = s.cyc := rfl
@[simp] theorem State.updateZN_fault (r : Byte) : (s.updateZN r).fault = s.fault := rfl
@[simp] theorem State.updateZN_mem (r : Byte) : (s.updateZN r).mem = s.mem := rfl
@[simp] theorem State.updateZN_keys (r : Byte) : (s.updateZN r).keys = s.keys := rfl
@[simp] theorem State.updateZN_diag (r : Byte) : (s.updateZN r).diag = s.diag := rfl

@[simp] theorem State.push_a (v : Byte) : (s.push v).a = s.a := rfl
@[simp] theorem State.push_x (v : Byte) : (s.push v).x = s.x := rfl
@[simp] theorem State.push_y (v : Byte) : (s.push v).y = s.y := rfl
@[simp] theorem State.push_p (v : Byte) : (s.push v).p = s.p := rfl
@[simp] theorem State.push_sp (v : Byte) : (s.push v).sp = s.sp - 1 := rfl
@[simp] theorem State.push_pc (v : Byte) : (s.push v).pc = s.pc := rfl
@[simp] theorem State.push_cyc (v : Byte) : (s.push v).cyc = s.cyc := rfl
@[simp] theorem State.push_fault (v : Byte) : (s.push v).fault = s.fault := rfl
@[simp] theorem State.push_mem (v : Byte) : (s.push v).mem = Memory.write s.mem s.sp v := rfl
@[simp] theorem State.push_keys (v : Byte) : (s.push v).keys = s.keys := rfl
@[simp] theorem State.push_diag (v : Byte) : (s.push v).diag = s.diag := rfl

end Sys2Proof.Machine
end

