-- ==== Sys2Proof/Laws/Ops.lean ====
section
/-! SUPPORT. What each shared operation over the state does: its answer, or each field of it. -/

namespace Sys2Proof.Machine

/-- Running a handler always answers: the state at the end of its step. -/
theorem runHandler_next {op : Byte} {h : OpEntry → State → Effect} {s t : State} (ht : runHandler op h s = .next t) :
    t = finishStep (opEntry op) (h (opEntry op) (s.setPC (s.pc + 1))) :=
  (Host.Outcome.next.inj ht).symm

/-- A recognized but unimplemented opcode changes PC, CYC and the event list. -/
theorem runUnimplemented_next {op : Byte} {s t : State} (ht : runUnimplemented op s = .next t) :
    t = ((s.emit ⟨op, s.pc⟩).setPC (s.pc + 1 + BitVec.ofNat 16 ((opEntry op).size - 1))).addCyc (opEntry op).cycles :=
  (Host.Outcome.next.inj ht).symm

/-- DecodeError changes the latch alone. -/
theorem raiseDecodeError_next {op : Byte} {s t : State} (ht : raiseDecodeError op s = .next t) :
    t = s.setFault (some ⟨op, s.pc⟩) :=
  (Host.Outcome.next.inj ht).symm

section
variable (e : OpEntry) (r : Effect)

@[simp] theorem finishStep_pc : (finishStep e r).pc =
    if r.moved then r.state.pc else r.state.pc + BitVec.ofNat 16 (e.size - 1) := by
  cases h : r.moved <;> simp [finishStep, h]

@[simp] theorem finishStep_cyc : (finishStep e r).cyc = r.state.cyc + (e.cycles + r.extra) := by
  cases h : r.moved <;> simp [finishStep, h]

@[simp] theorem finishStep_a : (finishStep e r).a = r.state.a := by
  cases h : r.moved <;> simp [finishStep, h]

@[simp] theorem finishStep_x : (finishStep e r).x = r.state.x := by
  cases h : r.moved <;> simp [finishStep, h]

@[simp] theorem finishStep_y : (finishStep e r).y = r.state.y := by
  cases h : r.moved <;> simp [finishStep, h]

@[simp] theorem finishStep_p : (finishStep e r).p = r.state.p := by
  cases h : r.moved <;> simp [finishStep, h]

@[simp] theorem finishStep_sp : (finishStep e r).sp = r.state.sp := by
  cases h : r.moved <;> simp [finishStep, h]

@[simp] theorem finishStep_fault : (finishStep e r).fault = r.state.fault := by
  cases h : r.moved <;> simp [finishStep, h]

@[simp] theorem finishStep_mem : (finishStep e r).mem = r.state.mem := by
  cases h : r.moved <;> simp [finishStep, h]

@[simp] theorem finishStep_keys : (finishStep e r).keys = r.state.keys := by
  cases h : r.moved <;> simp [finishStep, h]

@[simp] theorem finishStep_diag : (finishStep e r).diag = r.state.diag := by
  cases h : r.moved <;> simp [finishStep, h]

end

section
variable (opaddr offset : Word) (s : State)

@[simp] theorem enterTrap_a : (enterTrap opaddr offset s).a = s.a := by simp [enterTrap]
@[simp] theorem enterTrap_x : (enterTrap opaddr offset s).x = s.x := by simp [enterTrap]
@[simp] theorem enterTrap_y : (enterTrap opaddr offset s).y = s.y := by simp [enterTrap]
@[simp] theorem enterTrap_p : (enterTrap opaddr offset s).p = setFlag .b true s.p := by simp [enterTrap]
@[simp] theorem enterTrap_cyc : (enterTrap opaddr offset s).cyc = s.cyc := by simp [enterTrap]
@[simp] theorem enterTrap_fault : (enterTrap opaddr offset s).fault = s.fault := by simp [enterTrap]
@[simp] theorem enterTrap_keys : (enterTrap opaddr offset s).keys = s.keys := by simp [enterTrap]
@[simp] theorem enterTrap_diag : (enterTrap opaddr offset s).diag = s.diag := by simp [enterTrap]

/-- The three pushes of the trap, one after the other. -/
@[simp] theorem enterTrap_mem : (enterTrap opaddr offset s).mem =
    Memory.write (Memory.write (Memory.write s.mem s.sp (hiByte (opaddr + offset)))
      (s.sp - 1) (loByte (opaddr + offset))) (s.sp - 1 - 1) (setFlag .b true s.p) := by simp [enterTrap]

@[simp] theorem enterTrap_sp : (enterTrap opaddr offset s).sp = s.sp - 1 - 1 - 1 := by simp [enterTrap]

/-- The vector is read after the pushes. -/
@[simp] theorem enterTrap_pc : (enterTrap opaddr offset s).pc =
    Memory.readWord (enterTrap opaddr offset s).mem Config.brkVector := by simp [enterTrap]

end

/-- `UpdateZN` makes Z and N those of the result and leaves the other flags. -/
theorem getFlag_updateZN (f : Flag) (r p : Byte) :
    getFlag f (updateZN r p) = if f = .n then r.msb else if f = .z then decide (r = 0x00) else getFlag f p := by
  simp [updateZN]

/-- A push keeps the canonical form of memory. -/
theorem State.wf_push {s : State} (h : Memory.wf s.mem = true) (v : Byte) : Memory.wf (s.push v).mem = true :=
  Memory.wf_write h _ _

/-- A byte write keeps the canonical form of memory. -/
theorem State.wf_writeByte {s : State} (h : Memory.wf s.mem = true) (a : Word) (v : Byte) :
    Memory.wf (s.writeByte a v).mem = true :=
  Memory.wf_write h _ _

/-- The trap keeps the canonical form of memory. -/
theorem wf_enterTrap {s : State} (h : Memory.wf s.mem = true) (opaddr offset : Word) :
    Memory.wf (enterTrap opaddr offset s).mem = true :=
  by rw [enterTrap_mem]; exact Memory.wf_write (Memory.wf_write (Memory.wf_write h _ _) _ _) _ _

end Sys2Proof.Machine
end

