-- ==== Sys2Proof/Laws/Operands.lean ====
section
/-! SUPPORT. What operand access and the shared works of the handlers leave unchanged, field by field. -/

namespace Sys2Proof.Machine

/-- What a store changes: the accumulator, or the one cell. -/
theorem store_cases (l : Location) (v : Byte) (s : State) :
    (l = .accumulator ∧ store l v s = s.setA v) ∨ ∃ a, l = .address a ∧ store l v s = s.writeByte a v := by
  cases l with
  | accumulator => exact .inl ⟨rfl, rfl⟩
  | address a => exact .inr ⟨a, rfl, rfl⟩

/-- Storing keeps the canonical form of memory. -/
theorem wf_store {s : State} (h : Memory.wf s.mem = true) (l : Location) (v : Byte) :
    Memory.wf (store l v s).mem = true := by
  cases l with
  | accumulator => exact h
  | address a => exact Memory.wf_write h _ _

section
variable (l : Location) (v : Byte) (s : State)

@[simp] theorem load_accumulator : load .accumulator s = s.a := rfl
@[simp] theorem load_address (a : Word) : load (.address a) s = Memory.read s.mem a := rfl
@[simp] theorem store_accumulator : store .accumulator v s = s.setA v := rfl
@[simp] theorem store_address (a : Word) : store (.address a) v s = s.writeByte a v := rfl
@[simp] theorem store_x : (store l v s).x = s.x := by cases l <;> rfl
@[simp] theorem store_y : (store l v s).y = s.y := by cases l <;> rfl
@[simp] theorem store_p : (store l v s).p = s.p := by cases l <;> rfl
@[simp] theorem store_sp : (store l v s).sp = s.sp := by cases l <;> rfl
@[simp] theorem store_pc : (store l v s).pc = s.pc := by cases l <;> rfl
@[simp] theorem store_cyc : (store l v s).cyc = s.cyc := by cases l <;> rfl
@[simp] theorem store_fault : (store l v s).fault = s.fault := by cases l <;> rfl
@[simp] theorem store_keys : (store l v s).keys = s.keys := by cases l <;> rfl
@[simp] theorem store_diag : (store l v s).diag = s.diag := by cases l <;> rfl

end

/-- The page-crossing charge is at most one cycle, and one exactly when the entry carries the tag and the index crossed. -/
theorem pageCharge_eq (e : OpEntry) (cross : Bool) :
    pageCharge e cross = if cross = true ∧ e.modifier = .pageCrossed then 1 else 0 := by
  simp [pageCharge]

/-- A taken branch writes PC and nothing else, and charges one or two cycles. -/
theorem takeBranch_eq (off : Byte) (s : State) :
    (takeBranch off s).state = s.setPC (branchTarget (s.pc + 1) off) ∧ (takeBranch off s).moved = true ∧
    (takeBranch off s).extra = if hiByte (branchTarget (s.pc + 1) off) = hiByte (s.pc + 1) then 1 else 2 := by
  refine ⟨rfl, rfl, ?_⟩
  unfold takeBranch
  split <;> rfl

/-- What a branch does: `TakeBranch` when its flag has the value, nothing otherwise. -/
theorem branchForm_cases (flag : Flag) (want : Bool) (off : Byte) (e : OpEntry) (s : State) :
    (getFlag flag s.p = want ∧ branchForm flag want off e s = takeBranch off s) ∨
    (getFlag flag s.p ≠ want ∧ branchForm flag want off e s = ⟨s, false, 0⟩) := by
  by_cases h : getFlag flag s.p = want <;> simp [branchForm, h]

/-- Loading an immediate operand where `Resolve(Immediate)` finds it gives the instruction's second byte (log 13). -/
theorem load_resolve_immediate (s : State) :
    resolve .immediate s = (some (.address s.pc), false) ∧ load (.address s.pc) s = Memory.read s.mem s.pc :=
  ⟨rfl, rfl⟩

end Sys2Proof.Machine
end

