-- ==== Sys2Proof/Laws/Addresses.lean ====
section
/-! SUPPORT. One lemma per addressing mode: the location it resolves to, as arithmetic on natural numbers
(41_addressing R86 to R94). -/

namespace Sys2Proof.Machine

variable (z : Byte) (w : Word) (s : State)

theorem zext16_eq_ofNat : zext16 z = BitVec.ofNat 16 z.toNat :=
  word_eq_ofNat (by rw [toNat_zext16]; omega)

theorem read_zext16 : Memory.read s.mem (zext16 z) = cell s z.toNat := by
  rw [zext16_eq_ofNat]
  rfl

theorem toNat_zeroPagePointer {n : Nat} (h : z.toNat = n % 256) : (zeroPagePointer z s).toNat = pointerNat s n := by
  have h1 : (z + 1).toNat = (n + 1) % 256 := by simp [h]
  rw [zeroPagePointer, toNat_wordOf, read_zext16, read_zext16, pointerNat, h, h1]

theorem loByte_zeroPagePointer : loByte (zeroPagePointer z s) = cell s z.toNat := by
  rw [zeroPagePointer, loByte_wordOf, read_zext16]

/-- The carry of an index addition, as the number of cycles it may cost. -/
theorem crosses_eq (lo index : Byte) : crosses lo index = decide (crossNat lo.toNat index.toNat = 1) := by
  have h := lo.isLt
  simp only [crosses, crossNat, Nat.mod_eq_of_lt h]
  split <;> simp_all

theorem atZeroPage_eq : atZeroPage z s = (.address (BitVec.ofNat 16 z.toNat), false) := by
  rw [atZeroPage, zext16_eq_ofNat]

theorem atZeroPageX_eq : atZeroPageX z s = (.address (BitVec.ofNat 16 (natZeroPageX z s)), false) := by
  rw [atZeroPageX, zext16_eq_ofNat, BitVec.toNat_add]
  rfl

theorem atZeroPageY_eq : atZeroPageY z s = (.address (BitVec.ofNat 16 (natZeroPageY z s)), false) := by
  rw [atZeroPageY, zext16_eq_ofNat, BitVec.toNat_add]
  rfl

theorem atAbsolute_eq : atAbsolute w s = (.address (BitVec.ofNat 16 w.toNat), false) := by
  simp [atAbsolute]

theorem atAbsoluteX_eq : atAbsoluteX w s =
    (.address (BitVec.ofNat 16 (natAbsoluteX w s)), decide (crossNat (loByte w).toNat s.x.toNat = 1)) := by
  rw [atAbsoluteX, crosses_eq]
  congr 2
  exact word_eq_ofNat (by rw [BitVec.toNat_add, toNat_zext16, natAbsoluteX]; omega)

theorem atAbsoluteY_eq : atAbsoluteY w s =
    (.address (BitVec.ofNat 16 (natAbsoluteY w s)), decide (crossNat (loByte w).toNat s.y.toNat = 1)) := by
  rw [atAbsoluteY, crosses_eq]
  congr 2
  exact word_eq_ofNat (by rw [BitVec.toNat_add, toNat_zext16, natAbsoluteY]; omega)

theorem atIndirectX_eq : atIndirectX z s = (.address (BitVec.ofNat 16 (natIndirectX z s)), false) := by
  have h : (z + s.x).toNat = (z.toNat + s.x.toNat) % 256 := BitVec.toNat_add ..
  rw [atIndirectX, natIndirectX, ← toNat_zeroPagePointer _ s h]
  simp

theorem atIndirectY_eq : atIndirectY z s =
    (.address (BitVec.ofNat 16 (natIndirectY z s)), decide (crossNat (cell s z.toNat).toNat s.y.toNat = 1)) := by
  rw [atIndirectY, crosses_eq, loByte_zeroPagePointer]
  congr 2
  refine word_eq_ofNat ?_
  rw [BitVec.toNat_add, toNat_zext16, natIndirectY, ← toNat_zeroPagePointer z s (by omega)]
  omega

/-- The addresses and costs read memory only, so where PC stands does not matter. -/
@[simp] theorem cell_setPC (s : State) (v : Word) (n : Nat) : cell (s.setPC v) n = cell s n := rfl
@[simp] theorem pointerNat_setPC (s : State) (v : Word) (n : Nat) : pointerNat (s.setPC v) n = pointerNat s n := rfl

/-- Only the carry of the low byte counts. -/
theorem crossNat_mod (low index : Nat) : crossNat (low % 256) index = crossNat low index := by
  simp [crossNat]

/-- The target of a branch, as the rule computes it from the address of the instruction after it (44_control R109). -/
theorem branchTarget_eq (opaddr : Word) (off : Byte) : branchTarget (opaddr + 2) off = targetOf opaddr off := by
  apply BitVec.eq_of_toInt_eq
  rw [branchTarget, targetOf, BitVec.toInt_ofInt, BitVec.toInt_add, toInt_sext16, BitVec.toInt_add]
  simp only [BitVec.toInt_eq_toNat_bmod opaddr]
  simp [Int.add_bmod]

end Sys2Proof.Machine
end

