-- ==== Sys2Proof/Laws/Instr.lean ====
section
/-! SUPPORT. The opcode byte and the operand bytes of each instruction as rewriting rules, so that no proof unfolds the
two functions of 152 cases. -/

namespace Sys2Proof

@[simp] theorem Instr.opcode_ldaIndX (z : Byte) : Instr.opcode (Instr.ldaIndX z) = 0xA1#8 := rfl
@[simp] theorem Instr.opcode_ldaZp (z : Byte) : Instr.opcode (Instr.ldaZp z) = 0xA5#8 := rfl
@[simp] theorem Instr.opcode_ldaImm (v : Byte) : Instr.opcode (Instr.ldaImm v) = 0xA9#8 := rfl
@[simp] theorem Instr.opcode_ldaAbs (w : Word) : Instr.opcode (Instr.ldaAbs w) = 0xAD#8 := rfl
@[simp] theorem Instr.opcode_ldaIndY (z : Byte) : Instr.opcode (Instr.ldaIndY z) = 0xB1#8 := rfl
@[simp] theorem Instr.opcode_ldaZpX (z : Byte) : Instr.opcode (Instr.ldaZpX z) = 0xB5#8 := rfl
@[simp] theorem Instr.opcode_ldaAbsY (w : Word) : Instr.opcode (Instr.ldaAbsY w) = 0xB9#8 := rfl
@[simp] theorem Instr.opcode_ldaAbsX (w : Word) : Instr.opcode (Instr.ldaAbsX w) = 0xBD#8 := rfl
@[simp] theorem Instr.opcode_andIndX (z : Byte) : Instr.opcode (Instr.andIndX z) = 0x21#8 := rfl
@[simp] theorem Instr.opcode_andZp (z : Byte) : Instr.opcode (Instr.andZp z) = 0x25#8 := rfl
@[simp] theorem Instr.opcode_andImm (v : Byte) : Instr.opcode (Instr.andImm v) = 0x29#8 := rfl
@[simp] theorem Instr.opcode_andAbs (w : Word) : Instr.opcode (Instr.andAbs w) = 0x2D#8 := rfl
@[simp] theorem Instr.opcode_andIndY (z : Byte) : Instr.opcode (Instr.andIndY z) = 0x31#8 := rfl
@[simp] theorem Instr.opcode_andZpX (z : Byte) : Instr.opcode (Instr.andZpX z) = 0x35#8 := rfl
@[simp] theorem Instr.opcode_andAbsY (w : Word) : Instr.opcode (Instr.andAbsY w) = 0x39#8 := rfl
@[simp] theorem Instr.opcode_andAbsX (w : Word) : Instr.opcode (Instr.andAbsX w) = 0x3D#8 := rfl
@[simp] theorem Instr.opcode_aslZp (z : Byte) : Instr.opcode (Instr.aslZp z) = 0x06#8 := rfl
@[simp] theorem Instr.opcode_aslAcc : Instr.opcode (Instr.aslAcc) = 0x0A#8 := rfl
@[simp] theorem Instr.opcode_aslAbs (w : Word) : Instr.opcode (Instr.aslAbs w) = 0x0E#8 := rfl
@[simp] theorem Instr.opcode_aslZpX (z : Byte) : Instr.opcode (Instr.aslZpX z) = 0x16#8 := rfl
@[simp] theorem Instr.opcode_aslAbsX (w : Word) : Instr.opcode (Instr.aslAbsX w) = 0x1E#8 := rfl
@[simp] theorem Instr.opcode_inx : Instr.opcode (Instr.inx) = 0xE8#8 := rfl
@[simp] theorem Instr.opcode_dex : Instr.opcode (Instr.dex) = 0xCA#8 := rfl
@[simp] theorem Instr.opcode_tax : Instr.opcode (Instr.tax) = 0xAA#8 := rfl
@[simp] theorem Instr.opcode_tay : Instr.opcode (Instr.tay) = 0xA8#8 := rfl
@[simp] theorem Instr.opcode_txa : Instr.opcode (Instr.txa) = 0x8A#8 := rfl
@[simp] theorem Instr.opcode_tya : Instr.opcode (Instr.tya) = 0x98#8 := rfl
@[simp] theorem Instr.opcode_tsx : Instr.opcode (Instr.tsx) = 0xBA#8 := rfl
@[simp] theorem Instr.opcode_txs : Instr.opcode (Instr.txs) = 0x9A#8 := rfl
@[simp] theorem Instr.opcode_bpl (off : Byte) : Instr.opcode (Instr.bpl off) = 0x10#8 := rfl
@[simp] theorem Instr.opcode_bmi (off : Byte) : Instr.opcode (Instr.bmi off) = 0x30#8 := rfl
@[simp] theorem Instr.opcode_bvc (off : Byte) : Instr.opcode (Instr.bvc off) = 0x50#8 := rfl
@[simp] theorem Instr.opcode_bvs (off : Byte) : Instr.opcode (Instr.bvs off) = 0x70#8 := rfl
@[simp] theorem Instr.opcode_bcc (off : Byte) : Instr.opcode (Instr.bcc off) = 0x90#8 := rfl
@[simp] theorem Instr.opcode_bcs (off : Byte) : Instr.opcode (Instr.bcs off) = 0xB0#8 := rfl
@[simp] theorem Instr.opcode_bne (off : Byte) : Instr.opcode (Instr.bne off) = 0xD0#8 := rfl
@[simp] theorem Instr.opcode_beq (off : Byte) : Instr.opcode (Instr.beq off) = 0xF0#8 := rfl
@[simp] theorem Instr.opcode_brk : Instr.opcode (Instr.brk) = 0x00#8 := rfl
@[simp] theorem Instr.opcode_nop : Instr.opcode (Instr.nop) = 0xEA#8 := rfl
@[simp] theorem Instr.opcode_adcIndX (z : Byte) : Instr.opcode (Instr.adcIndX z) = 0x61#8 := rfl
@[simp] theorem Instr.opcode_adcZp (z : Byte) : Instr.opcode (Instr.adcZp z) = 0x65#8 := rfl
@[simp] theorem Instr.opcode_adcImm (v : Byte) : Instr.opcode (Instr.adcImm v) = 0x69#8 := rfl
@[simp] theorem Instr.opcode_adcAbs (w : Word) : Instr.opcode (Instr.adcAbs w) = 0x6D#8 := rfl
@[simp] theorem Instr.opcode_adcIndY (z : Byte) : Instr.opcode (Instr.adcIndY z) = 0x71#8 := rfl
@[simp] theorem Instr.opcode_adcZpX (z : Byte) : Instr.opcode (Instr.adcZpX z) = 0x75#8 := rfl
@[simp] theorem Instr.opcode_adcAbsY (w : Word) : Instr.opcode (Instr.adcAbsY w) = 0x79#8 := rfl
@[simp] theorem Instr.opcode_adcAbsX (w : Word) : Instr.opcode (Instr.adcAbsX w) = 0x7D#8 := rfl
@[simp] theorem Instr.opcode_bitZp (z : Byte) : Instr.opcode (Instr.bitZp z) = 0x24#8 := rfl
@[simp] theorem Instr.opcode_bitAbs (w : Word) : Instr.opcode (Instr.bitAbs w) = 0x2C#8 := rfl
@[simp] theorem Instr.opcode_clc : Instr.opcode (Instr.clc) = 0x18#8 := rfl
@[simp] theorem Instr.opcode_cld : Instr.opcode (Instr.cld) = 0xD8#8 := rfl
@[simp] theorem Instr.opcode_cli : Instr.opcode (Instr.cli) = 0x58#8 := rfl
@[simp] theorem Instr.opcode_clv : Instr.opcode (Instr.clv) = 0xB8#8 := rfl
@[simp] theorem Instr.opcode_cmpIndX (z : Byte) : Instr.opcode (Instr.cmpIndX z) = 0xC1#8 := rfl
@[simp] theorem Instr.opcode_cmpZp (z : Byte) : Instr.opcode (Instr.cmpZp z) = 0xC5#8 := rfl
@[simp] theorem Instr.opcode_cmpImm (v : Byte) : Instr.opcode (Instr.cmpImm v) = 0xC9#8 := rfl
@[simp] theorem Instr.opcode_cmpAbs (w : Word) : Instr.opcode (Instr.cmpAbs w) = 0xCD#8 := rfl
@[simp] theorem Instr.opcode_cmpIndY (z : Byte) : Instr.opcode (Instr.cmpIndY z) = 0xD1#8 := rfl
@[simp] theorem Instr.opcode_cmpZpX (z : Byte) : Instr.opcode (Instr.cmpZpX z) = 0xD5#8 := rfl
@[simp] theorem Instr.opcode_cmpAbsY (w : Word) : Instr.opcode (Instr.cmpAbsY w) = 0xD9#8 := rfl
@[simp] theorem Instr.opcode_cmpAbsX (w : Word) : Instr.opcode (Instr.cmpAbsX w) = 0xDD#8 := rfl
@[simp] theorem Instr.opcode_cpxImm (v : Byte) : Instr.opcode (Instr.cpxImm v) = 0xE0#8 := rfl
@[simp] theorem Instr.opcode_cpxZp (z : Byte) : Instr.opcode (Instr.cpxZp z) = 0xE4#8 := rfl
@[simp] theorem Instr.opcode_cpxAbs (w : Word) : Instr.opcode (Instr.cpxAbs w) = 0xEC#8 := rfl
@[simp] theorem Instr.opcode_cpyImm (v : Byte) : Instr.opcode (Instr.cpyImm v) = 0xC0#8 := rfl
@[simp] theorem Instr.opcode_cpyZp (z : Byte) : Instr.opcode (Instr.cpyZp z) = 0xC4#8 := rfl
@[simp] theorem Instr.opcode_cpyAbs (w : Word) : Instr.opcode (Instr.cpyAbs w) = 0xCC#8 := rfl
@[simp] theorem Instr.opcode_decZp (z : Byte) : Instr.opcode (Instr.decZp z) = 0xC6#8 := rfl
@[simp] theorem Instr.opcode_decAbs (w : Word) : Instr.opcode (Instr.decAbs w) = 0xCE#8 := rfl
@[simp] theorem Instr.opcode_decZpX (z : Byte) : Instr.opcode (Instr.decZpX z) = 0xD6#8 := rfl
@[simp] theorem Instr.opcode_decAbsX (w : Word) : Instr.opcode (Instr.decAbsX w) = 0xDE#8 := rfl
@[simp] theorem Instr.opcode_dey : Instr.opcode (Instr.dey) = 0x88#8 := rfl
@[simp] theorem Instr.opcode_eorIndX (z : Byte) : Instr.opcode (Instr.eorIndX z) = 0x41#8 := rfl
@[simp] theorem Instr.opcode_eorZp (z : Byte) : Instr.opcode (Instr.eorZp z) = 0x45#8 := rfl
@[simp] theorem Instr.opcode_eorImm (v : Byte) : Instr.opcode (Instr.eorImm v) = 0x49#8 := rfl
@[simp] theorem Instr.opcode_eorAbs (w : Word) : Instr.opcode (Instr.eorAbs w) = 0x4D#8 := rfl
@[simp] theorem Instr.opcode_eorIndY (z : Byte) : Instr.opcode (Instr.eorIndY z) = 0x51#8 := rfl
@[simp] theorem Instr.opcode_eorZpX (z : Byte) : Instr.opcode (Instr.eorZpX z) = 0x55#8 := rfl
@[simp] theorem Instr.opcode_eorAbsY (w : Word) : Instr.opcode (Instr.eorAbsY w) = 0x59#8 := rfl
@[simp] theorem Instr.opcode_eorAbsX (w : Word) : Instr.opcode (Instr.eorAbsX w) = 0x5D#8 := rfl
@[simp] theorem Instr.opcode_incZp (z : Byte) : Instr.opcode (Instr.incZp z) = 0xE6#8 := rfl
@[simp] theorem Instr.opcode_incAbs (w : Word) : Instr.opcode (Instr.incAbs w) = 0xEE#8 := rfl
@[simp] theorem Instr.opcode_incZpX (z : Byte) : Instr.opcode (Instr.incZpX z) = 0xF6#8 := rfl
@[simp] theorem Instr.opcode_incAbsX (w : Word) : Instr.opcode (Instr.incAbsX w) = 0xFE#8 := rfl
@[simp] theorem Instr.opcode_iny : Instr.opcode (Instr.iny) = 0xC8#8 := rfl
@[simp] theorem Instr.opcode_jmpAbs (w : Word) : Instr.opcode (Instr.jmpAbs w) = 0x4C#8 := rfl
@[simp] theorem Instr.opcode_jmpInd (w : Word) : Instr.opcode (Instr.jmpInd w) = 0x6C#8 := rfl
@[simp] theorem Instr.opcode_jsrAbs (w : Word) : Instr.opcode (Instr.jsrAbs w) = 0x20#8 := rfl
@[simp] theorem Instr.opcode_ldxImm (v : Byte) : Instr.opcode (Instr.ldxImm v) = 0xA2#8 := rfl
@[simp] theorem Instr.opcode_ldxZp (z : Byte) : Instr.opcode (Instr.ldxZp z) = 0xA6#8 := rfl
@[simp] theorem Instr.opcode_ldxAbs (w : Word) : Instr.opcode (Instr.ldxAbs w) = 0xAE#8 := rfl
@[simp] theorem Instr.opcode_ldxZpY (z : Byte) : Instr.opcode (Instr.ldxZpY z) = 0xB6#8 := rfl
@[simp] theorem Instr.opcode_ldxAbsY (w : Word) : Instr.opcode (Instr.ldxAbsY w) = 0xBE#8 := rfl
@[simp] theorem Instr.opcode_ldyImm (v : Byte) : Instr.opcode (Instr.ldyImm v) = 0xA0#8 := rfl
@[simp] theorem Instr.opcode_ldyZp (z : Byte) : Instr.opcode (Instr.ldyZp z) = 0xA4#8 := rfl
@[simp] theorem Instr.opcode_ldyAbs (w : Word) : Instr.opcode (Instr.ldyAbs w) = 0xAC#8 := rfl
@[simp] theorem Instr.opcode_ldyZpX (z : Byte) : Instr.opcode (Instr.ldyZpX z) = 0xB4#8 := rfl
@[simp] theorem Instr.opcode_ldyAbsX (w : Word) : Instr.opcode (Instr.ldyAbsX w) = 0xBC#8 := rfl
@[simp] theorem Instr.opcode_lsrZp (z : Byte) : Instr.opcode (Instr.lsrZp z) = 0x46#8 := rfl
@[simp] theorem Instr.opcode_lsrAcc : Instr.opcode (Instr.lsrAcc) = 0x4A#8 := rfl
@[simp] theorem Instr.opcode_lsrAbs (w : Word) : Instr.opcode (Instr.lsrAbs w) = 0x4E#8 := rfl
@[simp] theorem Instr.opcode_lsrZpX (z : Byte) : Instr.opcode (Instr.lsrZpX z) = 0x56#8 := rfl
@[simp] theorem Instr.opcode_lsrAbsX (w : Word) : Instr.opcode (Instr.lsrAbsX w) = 0x5E#8 := rfl
@[simp] theorem Instr.opcode_oraIndX (z : Byte) : Instr.opcode (Instr.oraIndX z) = 0x01#8 := rfl
@[simp] theorem Instr.opcode_oraZp (z : Byte) : Instr.opcode (Instr.oraZp z) = 0x05#8 := rfl
@[simp] theorem Instr.opcode_oraImm (v : Byte) : Instr.opcode (Instr.oraImm v) = 0x09#8 := rfl
@[simp] theorem Instr.opcode_oraAbs (w : Word) : Instr.opcode (Instr.oraAbs w) = 0x0D#8 := rfl
@[simp] theorem Instr.opcode_oraIndY (z : Byte) : Instr.opcode (Instr.oraIndY z) = 0x11#8 := rfl
@[simp] theorem Instr.opcode_oraZpX (z : Byte) : Instr.opcode (Instr.oraZpX z) = 0x15#8 := rfl
@[simp] theorem Instr.opcode_oraAbsY (w : Word) : Instr.opcode (Instr.oraAbsY w) = 0x19#8 := rfl
@[simp] theorem Instr.opcode_oraAbsX (w : Word) : Instr.opcode (Instr.oraAbsX w) = 0x1D#8 := rfl
@[simp] theorem Instr.opcode_pha : Instr.opcode (Instr.pha) = 0x48#8 := rfl
@[simp] theorem Instr.opcode_php : Instr.opcode (Instr.php) = 0x08#8 := rfl
@[simp] theorem Instr.opcode_pla : Instr.opcode (Instr.pla) = 0x68#8 := rfl
@[simp] theorem Instr.opcode_plp : Instr.opcode (Instr.plp) = 0x28#8 := rfl
@[simp] theorem Instr.opcode_rolZp (z : Byte) : Instr.opcode (Instr.rolZp z) = 0x26#8 := rfl
@[simp] theorem Instr.opcode_rolAcc : Instr.opcode (Instr.rolAcc) = 0x2A#8 := rfl
@[simp] theorem Instr.opcode_rolAbs (w : Word) : Instr.opcode (Instr.rolAbs w) = 0x2E#8 := rfl
@[simp] theorem Instr.opcode_rolZpX (z : Byte) : Instr.opcode (Instr.rolZpX z) = 0x36#8 := rfl
@[simp] theorem Instr.opcode_rolAbsX (w : Word) : Instr.opcode (Instr.rolAbsX w) = 0x3E#8 := rfl
@[simp] theorem Instr.opcode_rorZp (z : Byte) : Instr.opcode (Instr.rorZp z) = 0x66#8 := rfl
@[simp] theorem Instr.opcode_rorAcc : Instr.opcode (Instr.rorAcc) = 0x6A#8 := rfl
@[simp] theorem Instr.opcode_rorAbs (w : Word) : Instr.opcode (Instr.rorAbs w) = 0x6E#8 := rfl
@[simp] theorem Instr.opcode_rorZpX (z : Byte) : Instr.opcode (Instr.rorZpX z) = 0x76#8 := rfl
@[simp] theorem Instr.opcode_rorAbsX (w : Word) : Instr.opcode (Instr.rorAbsX w) = 0x7E#8 := rfl
@[simp] theorem Instr.opcode_rti : Instr.opcode (Instr.rti) = 0x40#8 := rfl
@[simp] theorem Instr.opcode_rts : Instr.opcode (Instr.rts) = 0x60#8 := rfl
@[simp] theorem Instr.opcode_sbcIndX (z : Byte) : Instr.opcode (Instr.sbcIndX z) = 0xE1#8 := rfl
@[simp] theorem Instr.opcode_sbcZp (z : Byte) : Instr.opcode (Instr.sbcZp z) = 0xE5#8 := rfl
@[simp] theorem Instr.opcode_sbcImm (v : Byte) : Instr.opcode (Instr.sbcImm v) = 0xE9#8 := rfl
@[simp] theorem Instr.opcode_sbcAbs (w : Word) : Instr.opcode (Instr.sbcAbs w) = 0xED#8 := rfl
@[simp] theorem Instr.opcode_sbcIndY (z : Byte) : Instr.opcode (Instr.sbcIndY z) = 0xF1#8 := rfl
@[simp] theorem Instr.opcode_sbcZpX (z : Byte) : Instr.opcode (Instr.sbcZpX z) = 0xF5#8 := rfl
@[simp] theorem Instr.opcode_sbcAbsY (w : Word) : Instr.opcode (Instr.sbcAbsY w) = 0xF9#8 := rfl
@[simp] theorem Instr.opcode_sbcAbsX (w : Word) : Instr.opcode (Instr.sbcAbsX w) = 0xFD#8 := rfl
@[simp] theorem Instr.opcode_sec : Instr.opcode (Instr.sec) = 0x38#8 := rfl
@[simp] theorem Instr.opcode_sed : Instr.opcode (Instr.sed) = 0xF8#8 := rfl
@[simp] theorem Instr.opcode_sei : Instr.opcode (Instr.sei) = 0x78#8 := rfl
@[simp] theorem Instr.opcode_staIndX (z : Byte) : Instr.opcode (Instr.staIndX z) = 0x81#8 := rfl
@[simp] theorem Instr.opcode_staZp (z : Byte) : Instr.opcode (Instr.staZp z) = 0x85#8 := rfl
@[simp] theorem Instr.opcode_staAbs (w : Word) : Instr.opcode (Instr.staAbs w) = 0x8D#8 := rfl
@[simp] theorem Instr.opcode_staIndY (z : Byte) : Instr.opcode (Instr.staIndY z) = 0x91#8 := rfl
@[simp] theorem Instr.opcode_staZpX (z : Byte) : Instr.opcode (Instr.staZpX z) = 0x95#8 := rfl
@[simp] theorem Instr.opcode_staAbsY (w : Word) : Instr.opcode (Instr.staAbsY w) = 0x99#8 := rfl
@[simp] theorem Instr.opcode_staAbsX (w : Word) : Instr.opcode (Instr.staAbsX w) = 0x9D#8 := rfl
@[simp] theorem Instr.opcode_stxZp (z : Byte) : Instr.opcode (Instr.stxZp z) = 0x86#8 := rfl
@[simp] theorem Instr.opcode_stxAbs (w : Word) : Instr.opcode (Instr.stxAbs w) = 0x8E#8 := rfl
@[simp] theorem Instr.opcode_stxZpY (z : Byte) : Instr.opcode (Instr.stxZpY z) = 0x96#8 := rfl
@[simp] theorem Instr.opcode_styZp (z : Byte) : Instr.opcode (Instr.styZp z) = 0x84#8 := rfl
@[simp] theorem Instr.opcode_styAbs (w : Word) : Instr.opcode (Instr.styAbs w) = 0x8C#8 := rfl
@[simp] theorem Instr.opcode_styZpX (z : Byte) : Instr.opcode (Instr.styZpX z) = 0x94#8 := rfl
@[simp] theorem Instr.opcode_undefined (op : Byte) : Instr.opcode (Instr.undefined op) = op := rfl

@[simp] theorem Instr.operandBytes_ldaIndX (z : Byte) : Instr.operandBytes (Instr.ldaIndX z) = [z] := rfl
@[simp] theorem Instr.operandBytes_ldaZp (z : Byte) : Instr.operandBytes (Instr.ldaZp z) = [z] := rfl
@[simp] theorem Instr.operandBytes_ldaImm (v : Byte) : Instr.operandBytes (Instr.ldaImm v) = [v] := rfl
@[simp] theorem Instr.operandBytes_ldaAbs (w : Word) : Instr.operandBytes (Instr.ldaAbs w) = [loByte w, hiByte w] := rfl
@[simp] theorem Instr.operandBytes_ldaIndY (z : Byte) : Instr.operandBytes (Instr.ldaIndY z) = [z] := rfl
@[simp] theorem Instr.operandBytes_ldaZpX (z : Byte) : Instr.operandBytes (Instr.ldaZpX z) = [z] := rfl
@[simp] theorem Instr.operandBytes_ldaAbsY (w : Word) : Instr.operandBytes (Instr.ldaAbsY w) = [loByte w, hiByte w] := rfl
@[simp] theorem Instr.operandBytes_ldaAbsX (w : Word) : Instr.operandBytes (Instr.ldaAbsX w) = [loByte w, hiByte w] := rfl
@[simp] theorem Instr.operandBytes_andIndX (z : Byte) : Instr.operandBytes (Instr.andIndX z) = [z] := rfl
@[simp] theorem Instr.operandBytes_andZp (z : Byte) : Instr.operandBytes (Instr.andZp z) = [z] := rfl
@[simp] theorem Instr.operandBytes_andImm (v : Byte) : Instr.operandBytes (Instr.andImm v) = [v] := rfl
@[simp] theorem Instr.operandBytes_andAbs (w : Word) : Instr.operandBytes (Instr.andAbs w) = [loByte w, hiByte w] := rfl
@[simp] theorem Instr.operandBytes_andIndY (z : Byte) : Instr.operandBytes (Instr.andIndY z) = [z] := rfl
@[simp] theorem Instr.operandBytes_andZpX (z : Byte) : Instr.operandBytes (Instr.andZpX z) = [z] := rfl
@[simp] theorem Instr.operandBytes_andAbsY (w : Word) : Instr.operandBytes (Instr.andAbsY w) = [loByte w, hiByte w] := rfl
@[simp] theorem Instr.operandBytes_andAbsX (w : Word) : Instr.operandBytes (Instr.andAbsX w) = [loByte w, hiByte w] := rfl
@[simp] theorem Instr.operandBytes_aslZp (z : Byte) : Instr.operandBytes (Instr.aslZp z) = [z] := rfl
@[simp] theorem Instr.operandBytes_aslAcc : Instr.operandBytes (Instr.aslAcc) = [] := rfl
@[simp] theorem Instr.operandBytes_aslAbs (w : Word) : Instr.operandBytes (Instr.aslAbs w) = [loByte w, hiByte w] := rfl
@[simp] theorem Instr.operandBytes_aslZpX (z : Byte) : Instr.operandBytes (Instr.aslZpX z) = [z] := rfl
@[simp] theorem Instr.operandBytes_aslAbsX (w : Word) : Instr.operandBytes (Instr.aslAbsX w) = [loByte w, hiByte w] := rfl
@[simp] theorem Instr.operandBytes_inx : Instr.operandBytes (Instr.inx) = [] := rfl
@[simp] theorem Instr.operandBytes_dex : Instr.operandBytes (Instr.dex) = [] := rfl
@[simp] theorem Instr.operandBytes_tax : Instr.operandBytes (Instr.tax) = [] := rfl
@[simp] theorem Instr.operandBytes_tay : Instr.operandBytes (Instr.tay) = [] := rfl
@[simp] theorem Instr.operandBytes_txa : Instr.operandBytes (Instr.txa) = [] := rfl
@[simp] theorem Instr.operandBytes_tya : Instr.operandBytes (Instr.tya) = [] := rfl
@[simp] theorem Instr.operandBytes_tsx : Instr.operandBytes (Instr.tsx) = [] := rfl
@[simp] theorem Instr.operandBytes_txs : Instr.operandBytes (Instr.txs) = [] := rfl
@[simp] theorem Instr.operandBytes_bpl (off : Byte) : Instr.operandBytes (Instr.bpl off) = [off] := rfl
@[simp] theorem Instr.operandBytes_bmi (off : Byte) : Instr.operandBytes (Instr.bmi off) = [off] := rfl
@[simp] theorem Instr.operandBytes_bvc (off : Byte) : Instr.operandBytes (Instr.bvc off) = [off] := rfl
@[simp] theorem Instr.operandBytes_bvs (off : Byte) : Instr.operandBytes (Instr.bvs off) = [off] := rfl
@[simp] theorem Instr.operandBytes_bcc (off : Byte) : Instr.operandBytes (Instr.bcc off) = [off] := rfl
@[simp] theorem Instr.operandBytes_bcs (off : Byte) : Instr.operandBytes (Instr.bcs off) = [off] := rfl
@[simp] theorem Instr.operandBytes_bne (off : Byte) : Instr.operandBytes (Instr.bne off) = [off] := rfl
@[simp] theorem Instr.operandBytes_beq (off : Byte) : Instr.operandBytes (Instr.beq off) = [off] := rfl
@[simp] theorem Instr.operandBytes_brk : Instr.operandBytes (Instr.brk) = [] := rfl
@[simp] theorem Instr.operandBytes_nop : Instr.operandBytes (Instr.nop) = [] := rfl
@[simp] theorem Instr.operandBytes_adcIndX (z : Byte) : Instr.operandBytes (Instr.adcIndX z) = [z] := rfl
@[simp] theorem Instr.operandBytes_adcZp (z : Byte) : Instr.operandBytes (Instr.adcZp z) = [z] := rfl
@[simp] theorem Instr.operandBytes_adcImm (v : Byte) : Instr.operandBytes (Instr.adcImm v) = [v] := rfl
@[simp] theorem Instr.operandBytes_adcAbs (w : Word) : Instr.operandBytes (Instr.adcAbs w) = [loByte w, hiByte w] := rfl
@[simp] theorem Instr.operandBytes_adcIndY (z : Byte) : Instr.operandBytes (Instr.adcIndY z) = [z] := rfl
@[simp] theorem Instr.operandBytes_adcZpX (z : Byte) : Instr.operandBytes (Instr.adcZpX z) = [z] := rfl
@[simp] theorem Instr.operandBytes_adcAbsY (w : Word) : Instr.operandBytes (Instr.adcAbsY w) = [loByte w, hiByte w] := rfl
@[simp] theorem Instr.operandBytes_adcAbsX (w : Word) : Instr.operandBytes (Instr.adcAbsX w) = [loByte w, hiByte w] := rfl
@[simp] theorem Instr.operandBytes_bitZp (z : Byte) : Instr.operandBytes (Instr.bitZp z) = [z] := rfl
@[simp] theorem Instr.operandBytes_bitAbs (w : Word) : Instr.operandBytes (Instr.bitAbs w) = [loByte w, hiByte w] := rfl
@[simp] theorem Instr.operandBytes_clc : Instr.operandBytes (Instr.clc) = [] := rfl
@[simp] theorem Instr.operandBytes_cld : Instr.operandBytes (Instr.cld) = [] := rfl
@[simp] theorem Instr.operandBytes_cli : Instr.operandBytes (Instr.cli) = [] := rfl
@[simp] theorem Instr.operandBytes_clv : Instr.operandBytes (Instr.clv) = [] := rfl
@[simp] theorem Instr.operandBytes_cmpIndX (z : Byte) : Instr.operandBytes (Instr.cmpIndX z) = [z] := rfl
@[simp] theorem Instr.operandBytes_cmpZp (z : Byte) : Instr.operandBytes (Instr.cmpZp z) = [z] := rfl
@[simp] theorem Instr.operandBytes_cmpImm (v : Byte) : Instr.operandBytes (Instr.cmpImm v) = [v] := rfl
@[simp] theorem Instr.operandBytes_cmpAbs (w : Word) : Instr.operandBytes (Instr.cmpAbs w) = [loByte w, hiByte w] := rfl
@[simp] theorem Instr.operandBytes_cmpIndY (z : Byte) : Instr.operandBytes (Instr.cmpIndY z) = [z] := rfl
@[simp] theorem Instr.operandBytes_cmpZpX (z : Byte) : Instr.operandBytes (Instr.cmpZpX z) = [z] := rfl
@[simp] theorem Instr.operandBytes_cmpAbsY (w : Word) : Instr.operandBytes (Instr.cmpAbsY w) = [loByte w, hiByte w] := rfl
@[simp] theorem Instr.operandBytes_cmpAbsX (w : Word) : Instr.operandBytes (Instr.cmpAbsX w) = [loByte w, hiByte w] := rfl
@[simp] theorem Instr.operandBytes_cpxImm (v : Byte) : Instr.operandBytes (Instr.cpxImm v) = [v] := rfl
@[simp] theorem Instr.operandBytes_cpxZp (z : Byte) : Instr.operandBytes (Instr.cpxZp z) = [z] := rfl
@[simp] theorem Instr.operandBytes_cpxAbs (w : Word) : Instr.operandBytes (Instr.cpxAbs w) = [loByte w, hiByte w] := rfl
@[simp] theorem Instr.operandBytes_cpyImm (v : Byte) : Instr.operandBytes (Instr.cpyImm v) = [v] := rfl
@[simp] theorem Instr.operandBytes_cpyZp (z : Byte) : Instr.operandBytes (Instr.cpyZp z) = [z] := rfl
@[simp] theorem Instr.operandBytes_cpyAbs (w : Word) : Instr.operandBytes (Instr.cpyAbs w) = [loByte w, hiByte w] := rfl
@[simp] theorem Instr.operandBytes_decZp (z : Byte) : Instr.operandBytes (Instr.decZp z) = [z] := rfl
@[simp] theorem Instr.operandBytes_decAbs (w : Word) : Instr.operandBytes (Instr.decAbs w) = [loByte w, hiByte w] := rfl
@[simp] theorem Instr.operandBytes_decZpX (z : Byte) : Instr.operandBytes (Instr.decZpX z) = [z] := rfl
@[simp] theorem Instr.operandBytes_decAbsX (w : Word) : Instr.operandBytes (Instr.decAbsX w) = [loByte w, hiByte w] := rfl
@[simp] theorem Instr.operandBytes_dey : Instr.operandBytes (Instr.dey) = [] := rfl
@[simp] theorem Instr.operandBytes_eorIndX (z : Byte) : Instr.operandBytes (Instr.eorIndX z) = [z] := rfl
@[simp] theorem Instr.operandBytes_eorZp (z : Byte) : Instr.operandBytes (Instr.eorZp z) = [z] := rfl
@[simp] theorem Instr.operandBytes_eorImm (v : Byte) : Instr.operandBytes (Instr.eorImm v) = [v] := rfl
@[simp] theorem Instr.operandBytes_eorAbs (w : Word) : Instr.operandBytes (Instr.eorAbs w) = [loByte w, hiByte w] := rfl
@[simp] theorem Instr.operandBytes_eorIndY (z : Byte) : Instr.operandBytes (Instr.eorIndY z) = [z] := rfl
@[simp] theorem Instr.operandBytes_eorZpX (z : Byte) : Instr.operandBytes (Instr.eorZpX z) = [z] := rfl
@[simp] theorem Instr.operandBytes_eorAbsY (w : Word) : Instr.operandBytes (Instr.eorAbsY w) = [loByte w, hiByte w] := rfl
@[simp] theorem Instr.operandBytes_eorAbsX (w : Word) : Instr.operandBytes (Instr.eorAbsX w) = [loByte w, hiByte w] := rfl
@[simp] theorem Instr.operandBytes_incZp (z : Byte) : Instr.operandBytes (Instr.incZp z) = [z] := rfl
@[simp] theorem Instr.operandBytes_incAbs (w : Word) : Instr.operandBytes (Instr.incAbs w) = [loByte w, hiByte w] := rfl
@[simp] theorem Instr.operandBytes_incZpX (z : Byte) : Instr.operandBytes (Instr.incZpX z) = [z] := rfl
@[simp] theorem Instr.operandBytes_incAbsX (w : Word) : Instr.operandBytes (Instr.incAbsX w) = [loByte w, hiByte w] := rfl
@[simp] theorem Instr.operandBytes_iny : Instr.operandBytes (Instr.iny) = [] := rfl
@[simp] theorem Instr.operandBytes_jmpAbs (w : Word) : Instr.operandBytes (Instr.jmpAbs w) = [loByte w, hiByte w] := rfl
@[simp] theorem Instr.operandBytes_jmpInd (w : Word) : Instr.operandBytes (Instr.jmpInd w) = [loByte w, hiByte w] := rfl
@[simp] theorem Instr.operandBytes_jsrAbs (w : Word) : Instr.operandBytes (Instr.jsrAbs w) = [loByte w, hiByte w] := rfl
@[simp] theorem Instr.operandBytes_ldxImm (v : Byte) : Instr.operandBytes (Instr.ldxImm v) = [v] := rfl
@[simp] theorem Instr.operandBytes_ldxZp (z : Byte) : Instr.operandBytes (Instr.ldxZp z) = [z] := rfl
@[simp] theorem Instr.operandBytes_ldxAbs (w : Word) : Instr.operandBytes (Instr.ldxAbs w) = [loByte w, hiByte w] := rfl
@[simp] theorem Instr.operandBytes_ldxZpY (z : Byte) : Instr.operandBytes (Instr.ldxZpY z) = [z] := rfl
@[simp] theorem Instr.operandBytes_ldxAbsY (w : Word) : Instr.operandBytes (Instr.ldxAbsY w) = [loByte w, hiByte w] := rfl
@[simp] theorem Instr.operandBytes_ldyImm (v : Byte) : Instr.operandBytes (Instr.ldyImm v) = [v] := rfl
@[simp] theorem Instr.operandBytes_ldyZp (z : Byte) : Instr.operandBytes (Instr.ldyZp z) = [z] := rfl
@[simp] theorem Instr.operandBytes_ldyAbs (w : Word) : Instr.operandBytes (Instr.ldyAbs w) = [loByte w, hiByte w] := rfl
@[simp] theorem Instr.operandBytes_ldyZpX (z : Byte) : Instr.operandBytes (Instr.ldyZpX z) = [z] := rfl
@[simp] theorem Instr.operandBytes_ldyAbsX (w : Word) : Instr.operandBytes (Instr.ldyAbsX w) = [loByte w, hiByte w] := rfl
@[simp] theorem Instr.operandBytes_lsrZp (z : Byte) : Instr.operandBytes (Instr.lsrZp z) = [z] := rfl
@[simp] theorem Instr.operandBytes_lsrAcc : Instr.operandBytes (Instr.lsrAcc) = [] := rfl
@[simp] theorem Instr.operandBytes_lsrAbs (w : Word) : Instr.operandBytes (Instr.lsrAbs w) = [loByte w, hiByte w] := rfl
@[simp] theorem Instr.operandBytes_lsrZpX (z : Byte) : Instr.operandBytes (Instr.lsrZpX z) = [z] := rfl
@[simp] theorem Instr.operandBytes_lsrAbsX (w : Word) : Instr.operandBytes (Instr.lsrAbsX w) = [loByte w, hiByte w] := rfl
@[simp] theorem Instr.operandBytes_oraIndX (z : Byte) : Instr.operandBytes (Instr.oraIndX z) = [z] := rfl
@[simp] theorem Instr.operandBytes_oraZp (z : Byte) : Instr.operandBytes (Instr.oraZp z) = [z] := rfl
@[simp] theorem Instr.operandBytes_oraImm (v : Byte) : Instr.operandBytes (Instr.oraImm v) = [v] := rfl
@[simp] theorem Instr.operandBytes_oraAbs (w : Word) : Instr.operandBytes (Instr.oraAbs w) = [loByte w, hiByte w] := rfl
@[simp] theorem Instr.operandBytes_oraIndY (z : Byte) : Instr.operandBytes (Instr.oraIndY z) = [z] := rfl
@[simp] theorem Instr.operandBytes_oraZpX (z : Byte) : Instr.operandBytes (Instr.oraZpX z) = [z] := rfl
@[simp] theorem Instr.operandBytes_oraAbsY (w : Word) : Instr.operandBytes (Instr.oraAbsY w) = [loByte w, hiByte w] := rfl
@[simp] theorem Instr.operandBytes_oraAbsX (w : Word) : Instr.operandBytes (Instr.oraAbsX w) = [loByte w, hiByte w] := rfl
@[simp] theorem Instr.operandBytes_pha : Instr.operandBytes (Instr.pha) = [] := rfl
@[simp] theorem Instr.operandBytes_php : Instr.operandBytes (Instr.php) = [] := rfl
@[simp] theorem Instr.operandBytes_pla : Instr.operandBytes (Instr.pla) = [] := rfl
@[simp] theorem Instr.operandBytes_plp : Instr.operandBytes (Instr.plp) = [] := rfl
@[simp] theorem Instr.operandBytes_rolZp (z : Byte) : Instr.operandBytes (Instr.rolZp z) = [z] := rfl
@[simp] theorem Instr.operandBytes_rolAcc : Instr.operandBytes (Instr.rolAcc) = [] := rfl
@[simp] theorem Instr.operandBytes_rolAbs (w : Word) : Instr.operandBytes (Instr.rolAbs w) = [loByte w, hiByte w] := rfl
@[simp] theorem Instr.operandBytes_rolZpX (z : Byte) : Instr.operandBytes (Instr.rolZpX z) = [z] := rfl
@[simp] theorem Instr.operandBytes_rolAbsX (w : Word) : Instr.operandBytes (Instr.rolAbsX w) = [loByte w, hiByte w] := rfl
@[simp] theorem Instr.operandBytes_rorZp (z : Byte) : Instr.operandBytes (Instr.rorZp z) = [z] := rfl
@[simp] theorem Instr.operandBytes_rorAcc : Instr.operandBytes (Instr.rorAcc) = [] := rfl
@[simp] theorem Instr.operandBytes_rorAbs (w : Word) : Instr.operandBytes (Instr.rorAbs w) = [loByte w, hiByte w] := rfl
@[simp] theorem Instr.operandBytes_rorZpX (z : Byte) : Instr.operandBytes (Instr.rorZpX z) = [z] := rfl
@[simp] theorem Instr.operandBytes_rorAbsX (w : Word) : Instr.operandBytes (Instr.rorAbsX w) = [loByte w, hiByte w] := rfl
@[simp] theorem Instr.operandBytes_rti : Instr.operandBytes (Instr.rti) = [] := rfl
@[simp] theorem Instr.operandBytes_rts : Instr.operandBytes (Instr.rts) = [] := rfl
@[simp] theorem Instr.operandBytes_sbcIndX (z : Byte) : Instr.operandBytes (Instr.sbcIndX z) = [z] := rfl
@[simp] theorem Instr.operandBytes_sbcZp (z : Byte) : Instr.operandBytes (Instr.sbcZp z) = [z] := rfl
@[simp] theorem Instr.operandBytes_sbcImm (v : Byte) : Instr.operandBytes (Instr.sbcImm v) = [v] := rfl
@[simp] theorem Instr.operandBytes_sbcAbs (w : Word) : Instr.operandBytes (Instr.sbcAbs w) = [loByte w, hiByte w] := rfl
@[simp] theorem Instr.operandBytes_sbcIndY (z : Byte) : Instr.operandBytes (Instr.sbcIndY z) = [z] := rfl
@[simp] theorem Instr.operandBytes_sbcZpX (z : Byte) : Instr.operandBytes (Instr.sbcZpX z) = [z] := rfl
@[simp] theorem Instr.operandBytes_sbcAbsY (w : Word) : Instr.operandBytes (Instr.sbcAbsY w) = [loByte w, hiByte w] := rfl
@[simp] theorem Instr.operandBytes_sbcAbsX (w : Word) : Instr.operandBytes (Instr.sbcAbsX w) = [loByte w, hiByte w] := rfl
@[simp] theorem Instr.operandBytes_sec : Instr.operandBytes (Instr.sec) = [] := rfl
@[simp] theorem Instr.operandBytes_sed : Instr.operandBytes (Instr.sed) = [] := rfl
@[simp] theorem Instr.operandBytes_sei : Instr.operandBytes (Instr.sei) = [] := rfl
@[simp] theorem Instr.operandBytes_staIndX (z : Byte) : Instr.operandBytes (Instr.staIndX z) = [z] := rfl
@[simp] theorem Instr.operandBytes_staZp (z : Byte) : Instr.operandBytes (Instr.staZp z) = [z] := rfl
@[simp] theorem Instr.operandBytes_staAbs (w : Word) : Instr.operandBytes (Instr.staAbs w) = [loByte w, hiByte w] := rfl
@[simp] theorem Instr.operandBytes_staIndY (z : Byte) : Instr.operandBytes (Instr.staIndY z) = [z] := rfl
@[simp] theorem Instr.operandBytes_staZpX (z : Byte) : Instr.operandBytes (Instr.staZpX z) = [z] := rfl
@[simp] theorem Instr.operandBytes_staAbsY (w : Word) : Instr.operandBytes (Instr.staAbsY w) = [loByte w, hiByte w] := rfl
@[simp] theorem Instr.operandBytes_staAbsX (w : Word) : Instr.operandBytes (Instr.staAbsX w) = [loByte w, hiByte w] := rfl
@[simp] theorem Instr.operandBytes_stxZp (z : Byte) : Instr.operandBytes (Instr.stxZp z) = [z] := rfl
@[simp] theorem Instr.operandBytes_stxAbs (w : Word) : Instr.operandBytes (Instr.stxAbs w) = [loByte w, hiByte w] := rfl
@[simp] theorem Instr.operandBytes_stxZpY (z : Byte) : Instr.operandBytes (Instr.stxZpY z) = [z] := rfl
@[simp] theorem Instr.operandBytes_styZp (z : Byte) : Instr.operandBytes (Instr.styZp z) = [z] := rfl
@[simp] theorem Instr.operandBytes_styAbs (w : Word) : Instr.operandBytes (Instr.styAbs w) = [loByte w, hiByte w] := rfl
@[simp] theorem Instr.operandBytes_styZpX (z : Byte) : Instr.operandBytes (Instr.styZpX z) = [z] := rfl
@[simp] theorem Instr.operandBytes_undefined (op : Byte) : Instr.operandBytes (Instr.undefined op) = [] := rfl

end Sys2Proof
end

