-- ==== Sys2Proof/Laws/OpTable.lean ====
section
/-! SUPPORT. What the opcode table gives each defined opcode byte (30_encoding R63), so that no proof unfolds the table. -/

namespace Sys2Proof

@[simp] theorem opEntry_00 : opEntry 0x00#8 = ⟨.brk, .none, 1, 7, .none, .implemented⟩ := by decide
@[simp] theorem opEntry_01 : opEntry 0x01#8 = ⟨.ora, .indirectX, 2, 6, .none, .unimplemented⟩ := by decide
@[simp] theorem opEntry_05 : opEntry 0x05#8 = ⟨.ora, .zeroPage, 2, 3, .none, .unimplemented⟩ := by decide
@[simp] theorem opEntry_06 : opEntry 0x06#8 = ⟨.asl, .zeroPage, 2, 5, .none, .implemented⟩ := by decide
@[simp] theorem opEntry_08 : opEntry 0x08#8 = ⟨.php, .none, 1, 3, .none, .unimplemented⟩ := by decide
@[simp] theorem opEntry_09 : opEntry 0x09#8 = ⟨.ora, .immediate, 2, 2, .none, .unimplemented⟩ := by decide
@[simp] theorem opEntry_0A : opEntry 0x0A#8 = ⟨.asl, .accumulator, 1, 2, .none, .implemented⟩ := by decide
@[simp] theorem opEntry_0D : opEntry 0x0D#8 = ⟨.ora, .absolute, 3, 4, .none, .unimplemented⟩ := by decide
@[simp] theorem opEntry_0E : opEntry 0x0E#8 = ⟨.asl, .absolute, 3, 6, .none, .implemented⟩ := by decide
@[simp] theorem opEntry_10 : opEntry 0x10#8 = ⟨.bpl, .relative, 2, 2, .branchTaken, .implemented⟩ := by decide
@[simp] theorem opEntry_11 : opEntry 0x11#8 = ⟨.ora, .indirectY, 2, 5, .pageCrossed, .unimplemented⟩ := by decide
@[simp] theorem opEntry_15 : opEntry 0x15#8 = ⟨.ora, .zeroPageX, 2, 4, .none, .unimplemented⟩ := by decide
@[simp] theorem opEntry_16 : opEntry 0x16#8 = ⟨.asl, .zeroPageX, 2, 6, .none, .implemented⟩ := by decide
@[simp] theorem opEntry_18 : opEntry 0x18#8 = ⟨.clc, .none, 1, 2, .none, .unimplemented⟩ := by decide
@[simp] theorem opEntry_19 : opEntry 0x19#8 = ⟨.ora, .absoluteY, 3, 4, .pageCrossed, .unimplemented⟩ := by decide
@[simp] theorem opEntry_1D : opEntry 0x1D#8 = ⟨.ora, .absoluteX, 3, 4, .pageCrossed, .unimplemented⟩ := by decide
@[simp] theorem opEntry_1E : opEntry 0x1E#8 = ⟨.asl, .absoluteX, 3, 7, .none, .implemented⟩ := by decide
@[simp] theorem opEntry_20 : opEntry 0x20#8 = ⟨.jsr, .absolute, 3, 6, .none, .unimplemented⟩ := by decide
@[simp] theorem opEntry_21 : opEntry 0x21#8 = ⟨.and, .indirectX, 2, 6, .none, .implemented⟩ := by decide
@[simp] theorem opEntry_24 : opEntry 0x24#8 = ⟨.bit, .zeroPage, 2, 3, .none, .unimplemented⟩ := by decide
@[simp] theorem opEntry_25 : opEntry 0x25#8 = ⟨.and, .zeroPage, 2, 3, .none, .implemented⟩ := by decide
@[simp] theorem opEntry_26 : opEntry 0x26#8 = ⟨.rol, .zeroPage, 2, 5, .none, .unimplemented⟩ := by decide
@[simp] theorem opEntry_28 : opEntry 0x28#8 = ⟨.plp, .none, 1, 4, .none, .unimplemented⟩ := by decide
@[simp] theorem opEntry_29 : opEntry 0x29#8 = ⟨.and, .immediate, 2, 2, .none, .implemented⟩ := by decide
@[simp] theorem opEntry_2A : opEntry 0x2A#8 = ⟨.rol, .accumulator, 1, 2, .none, .unimplemented⟩ := by decide
@[simp] theorem opEntry_2C : opEntry 0x2C#8 = ⟨.bit, .absolute, 3, 4, .none, .unimplemented⟩ := by decide
@[simp] theorem opEntry_2D : opEntry 0x2D#8 = ⟨.and, .absolute, 3, 4, .none, .implemented⟩ := by decide
@[simp] theorem opEntry_2E : opEntry 0x2E#8 = ⟨.rol, .absolute, 3, 6, .none, .unimplemented⟩ := by decide
@[simp] theorem opEntry_30 : opEntry 0x30#8 = ⟨.bmi, .relative, 2, 2, .branchTaken, .implemented⟩ := by decide
@[simp] theorem opEntry_31 : opEntry 0x31#8 = ⟨.and, .indirectY, 2, 5, .pageCrossed, .implemented⟩ := by decide
@[simp] theorem opEntry_35 : opEntry 0x35#8 = ⟨.and, .zeroPageX, 2, 4, .none, .implemented⟩ := by decide
@[simp] theorem opEntry_36 : opEntry 0x36#8 = ⟨.rol, .zeroPageX, 2, 6, .none, .unimplemented⟩ := by decide
@[simp] theorem opEntry_38 : opEntry 0x38#8 = ⟨.sec, .none, 1, 2, .none, .unimplemented⟩ := by decide
@[simp] theorem opEntry_39 : opEntry 0x39#8 = ⟨.and, .absoluteY, 3, 4, .pageCrossed, .implemented⟩ := by decide
@[simp] theorem opEntry_3D : opEntry 0x3D#8 = ⟨.and, .absoluteX, 3, 4, .pageCrossed, .implemented⟩ := by decide
@[simp] theorem opEntry_3E : opEntry 0x3E#8 = ⟨.rol, .absoluteX, 3, 7, .none, .unimplemented⟩ := by decide
@[simp] theorem opEntry_40 : opEntry 0x40#8 = ⟨.rti, .none, 1, 6, .none, .unimplemented⟩ := by decide
@[simp] theorem opEntry_41 : opEntry 0x41#8 = ⟨.eor, .indirectX, 2, 6, .none, .unimplemented⟩ := by decide
@[simp] theorem opEntry_45 : opEntry 0x45#8 = ⟨.eor, .zeroPage, 2, 3, .none, .unimplemented⟩ := by decide
@[simp] theorem opEntry_46 : opEntry 0x46#8 = ⟨.lsr, .zeroPage, 2, 5, .none, .unimplemented⟩ := by decide
@[simp] theorem opEntry_48 : opEntry 0x48#8 = ⟨.pha, .none, 1, 3, .none, .unimplemented⟩ := by decide
@[simp] theorem opEntry_49 : opEntry 0x49#8 = ⟨.eor, .immediate, 2, 2, .none, .unimplemented⟩ := by decide
@[simp] theorem opEntry_4A : opEntry 0x4A#8 = ⟨.lsr, .accumulator, 1, 2, .none, .unimplemented⟩ := by decide
@[simp] theorem opEntry_4C : opEntry 0x4C#8 = ⟨.jmp, .absolute, 3, 3, .none, .unimplemented⟩ := by decide
@[simp] theorem opEntry_4D : opEntry 0x4D#8 = ⟨.eor, .absolute, 3, 4, .none, .unimplemented⟩ := by decide
@[simp] theorem opEntry_4E : opEntry 0x4E#8 = ⟨.lsr, .absolute, 3, 6, .none, .unimplemented⟩ := by decide
@[simp] theorem opEntry_50 : opEntry 0x50#8 = ⟨.bvc, .relative, 2, 2, .branchTaken, .implemented⟩ := by decide
@[simp] theorem opEntry_51 : opEntry 0x51#8 = ⟨.eor, .indirectY, 2, 5, .pageCrossed, .unimplemented⟩ := by decide
@[simp] theorem opEntry_55 : opEntry 0x55#8 = ⟨.eor, .zeroPageX, 2, 4, .none, .unimplemented⟩ := by decide
@[simp] theorem opEntry_56 : opEntry 0x56#8 = ⟨.lsr, .zeroPageX, 2, 6, .none, .unimplemented⟩ := by decide
@[simp] theorem opEntry_58 : opEntry 0x58#8 = ⟨.cli, .none, 1, 2, .none, .unimplemented⟩ := by decide
@[simp] theorem opEntry_59 : opEntry 0x59#8 = ⟨.eor, .absoluteY, 3, 4, .pageCrossed, .unimplemented⟩ := by decide
@[simp] theorem opEntry_5D : opEntry 0x5D#8 = ⟨.eor, .absoluteX, 3, 4, .pageCrossed, .unimplemented⟩ := by decide
@[simp] theorem opEntry_5E : opEntry 0x5E#8 = ⟨.lsr, .absoluteX, 3, 7, .none, .unimplemented⟩ := by decide
@[simp] theorem opEntry_60 : opEntry 0x60#8 = ⟨.rts, .none, 1, 6, .none, .unimplemented⟩ := by decide
@[simp] theorem opEntry_61 : opEntry 0x61#8 = ⟨.adc, .indirectX, 2, 6, .none, .unimplemented⟩ := by decide
@[simp] theorem opEntry_65 : opEntry 0x65#8 = ⟨.adc, .zeroPage, 2, 3, .none, .unimplemented⟩ := by decide
@[simp] theorem opEntry_66 : opEntry 0x66#8 = ⟨.ror, .zeroPage, 2, 5, .none, .unimplemented⟩ := by decide
@[simp] theorem opEntry_68 : opEntry 0x68#8 = ⟨.pla, .none, 1, 4, .none, .unimplemented⟩ := by decide
@[simp] theorem opEntry_69 : opEntry 0x69#8 = ⟨.adc, .immediate, 2, 2, .none, .unimplemented⟩ := by decide
@[simp] theorem opEntry_6A : opEntry 0x6A#8 = ⟨.ror, .accumulator, 1, 2, .none, .unimplemented⟩ := by decide
@[simp] theorem opEntry_6C : opEntry 0x6C#8 = ⟨.jmp, .indirect, 3, 5, .none, .unimplemented⟩ := by decide
@[simp] theorem opEntry_6D : opEntry 0x6D#8 = ⟨.adc, .absolute, 3, 4, .none, .unimplemented⟩ := by decide
@[simp] theorem opEntry_6E : opEntry 0x6E#8 = ⟨.ror, .absolute, 3, 6, .none, .unimplemented⟩ := by decide
@[simp] theorem opEntry_70 : opEntry 0x70#8 = ⟨.bvs, .relative, 2, 2, .branchTaken, .implemented⟩ := by decide
@[simp] theorem opEntry_71 : opEntry 0x71#8 = ⟨.adc, .indirectY, 2, 5, .pageCrossed, .unimplemented⟩ := by decide
@[simp] theorem opEntry_75 : opEntry 0x75#8 = ⟨.adc, .zeroPageX, 2, 4, .none, .unimplemented⟩ := by decide
@[simp] theorem opEntry_76 : opEntry 0x76#8 = ⟨.ror, .zeroPageX, 2, 6, .none, .unimplemented⟩ := by decide
@[simp] theorem opEntry_78 : opEntry 0x78#8 = ⟨.sei, .none, 1, 2, .none, .unimplemented⟩ := by decide
@[simp] theorem opEntry_79 : opEntry 0x79#8 = ⟨.adc, .absoluteY, 3, 4, .pageCrossed, .unimplemented⟩ := by decide
@[simp] theorem opEntry_7D : opEntry 0x7D#8 = ⟨.adc, .absoluteX, 3, 4, .pageCrossed, .unimplemented⟩ := by decide
@[simp] theorem opEntry_7E : opEntry 0x7E#8 = ⟨.ror, .absoluteX, 3, 7, .none, .unimplemented⟩ := by decide
@[simp] theorem opEntry_81 : opEntry 0x81#8 = ⟨.sta, .indirectX, 2, 6, .none, .unimplemented⟩ := by decide
@[simp] theorem opEntry_84 : opEntry 0x84#8 = ⟨.sty, .zeroPage, 2, 3, .none, .unimplemented⟩ := by decide
@[simp] theorem opEntry_85 : opEntry 0x85#8 = ⟨.sta, .zeroPage, 2, 3, .none, .unimplemented⟩ := by decide
@[simp] theorem opEntry_86 : opEntry 0x86#8 = ⟨.stx, .zeroPage, 2, 3, .none, .unimplemented⟩ := by decide
@[simp] theorem opEntry_88 : opEntry 0x88#8 = ⟨.dey, .none, 1, 2, .none, .unimplemented⟩ := by decide
@[simp] theorem opEntry_8A : opEntry 0x8A#8 = ⟨.txa, .none, 1, 2, .none, .implemented⟩ := by decide
@[simp] theorem opEntry_8C : opEntry 0x8C#8 = ⟨.sty, .absolute, 3, 4, .none, .unimplemented⟩ := by decide
@[simp] theorem opEntry_8D : opEntry 0x8D#8 = ⟨.sta, .absolute, 3, 4, .none, .unimplemented⟩ := by decide
@[simp] theorem opEntry_8E : opEntry 0x8E#8 = ⟨.stx, .absolute, 3, 4, .none, .unimplemented⟩ := by decide
@[simp] theorem opEntry_90 : opEntry 0x90#8 = ⟨.bcc, .relative, 2, 2, .branchTaken, .implemented⟩ := by decide
@[simp] theorem opEntry_91 : opEntry 0x91#8 = ⟨.sta, .indirectY, 2, 6, .none, .unimplemented⟩ := by decide
@[simp] theorem opEntry_94 : opEntry 0x94#8 = ⟨.sty, .zeroPageX, 2, 4, .none, .unimplemented⟩ := by decide
@[simp] theorem opEntry_95 : opEntry 0x95#8 = ⟨.sta, .zeroPageX, 2, 4, .none, .unimplemented⟩ := by decide
@[simp] theorem opEntry_96 : opEntry 0x96#8 = ⟨.stx, .zeroPageY, 2, 4, .none, .unimplemented⟩ := by decide
@[simp] theorem opEntry_98 : opEntry 0x98#8 = ⟨.tya, .none, 1, 2, .none, .implemented⟩ := by decide
@[simp] theorem opEntry_99 : opEntry 0x99#8 = ⟨.sta, .absoluteY, 3, 5, .none, .unimplemented⟩ := by decide
@[simp] theorem opEntry_9A : opEntry 0x9A#8 = ⟨.txs, .none, 1, 2, .none, .implemented⟩ := by decide
@[simp] theorem opEntry_9D : opEntry 0x9D#8 = ⟨.sta, .absoluteX, 3, 5, .none, .unimplemented⟩ := by decide
@[simp] theorem opEntry_A0 : opEntry 0xA0#8 = ⟨.ldy, .immediate, 2, 2, .none, .unimplemented⟩ := by decide
@[simp] theorem opEntry_A1 : opEntry 0xA1#8 = ⟨.lda, .indirectX, 2, 6, .none, .implemented⟩ := by decide
@[simp] theorem opEntry_A2 : opEntry 0xA2#8 = ⟨.ldx, .immediate, 2, 2, .none, .unimplemented⟩ := by decide
@[simp] theorem opEntry_A4 : opEntry 0xA4#8 = ⟨.ldy, .zeroPage, 2, 3, .none, .unimplemented⟩ := by decide
@[simp] theorem opEntry_A5 : opEntry 0xA5#8 = ⟨.lda, .zeroPage, 2, 3, .none, .implemented⟩ := by decide
@[simp] theorem opEntry_A6 : opEntry 0xA6#8 = ⟨.ldx, .zeroPage, 2, 3, .none, .unimplemented⟩ := by decide
@[simp] theorem opEntry_A8 : opEntry 0xA8#8 = ⟨.tay, .none, 1, 2, .none, .implemented⟩ := by decide
@[simp] theorem opEntry_A9 : opEntry 0xA9#8 = ⟨.lda, .immediate, 2, 2, .none, .implemented⟩ := by decide
@[simp] theorem opEntry_AA : opEntry 0xAA#8 = ⟨.tax, .none, 1, 2, .none, .implemented⟩ := by decide
@[simp] theorem opEntry_AC : opEntry 0xAC#8 = ⟨.ldy, .absolute, 3, 4, .none, .unimplemented⟩ := by decide
@[simp] theorem opEntry_AD : opEntry 0xAD#8 = ⟨.lda, .absolute, 3, 4, .none, .implemented⟩ := by decide
@[simp] theorem opEntry_AE : opEntry 0xAE#8 = ⟨.ldx, .absolute, 3, 4, .none, .unimplemented⟩ := by decide
@[simp] theorem opEntry_B0 : opEntry 0xB0#8 = ⟨.bcs, .relative, 2, 2, .branchTaken, .implemented⟩ := by decide
@[simp] theorem opEntry_B1 : opEntry 0xB1#8 = ⟨.lda, .indirectY, 2, 5, .pageCrossed, .implemented⟩ := by decide
@[simp] theorem opEntry_B4 : opEntry 0xB4#8 = ⟨.ldy, .zeroPageX, 2, 4, .none, .unimplemented⟩ := by decide
@[simp] theorem opEntry_B5 : opEntry 0xB5#8 = ⟨.lda, .zeroPageX, 2, 4, .none, .implemented⟩ := by decide
@[simp] theorem opEntry_B6 : opEntry 0xB6#8 = ⟨.ldx, .zeroPageY, 2, 4, .none, .unimplemented⟩ := by decide
@[simp] theorem opEntry_B8 : opEntry 0xB8#8 = ⟨.clv, .none, 1, 2, .none, .unimplemented⟩ := by decide
@[simp] theorem opEntry_B9 : opEntry 0xB9#8 = ⟨.lda, .absoluteY, 3, 4, .pageCrossed, .implemented⟩ := by decide
@[simp] theorem opEntry_BA : opEntry 0xBA#8 = ⟨.tsx, .none, 1, 2, .none, .implemented⟩ := by decide
@[simp] theorem opEntry_BC : opEntry 0xBC#8 = ⟨.ldy, .absoluteX, 3, 4, .pageCrossed, .unimplemented⟩ := by decide
@[simp] theorem opEntry_BD : opEntry 0xBD#8 = ⟨.lda, .absoluteX, 3, 4, .pageCrossed, .implemented⟩ := by decide
@[simp] theorem opEntry_BE : opEntry 0xBE#8 = ⟨.ldx, .absoluteY, 3, 4, .pageCrossed, .unimplemented⟩ := by decide
@[simp] theorem opEntry_C0 : opEntry 0xC0#8 = ⟨.cpy, .immediate, 2, 2, .none, .unimplemented⟩ := by decide
@[simp] theorem opEntry_C1 : opEntry 0xC1#8 = ⟨.cmp, .indirectX, 2, 6, .none, .unimplemented⟩ := by decide
@[simp] theorem opEntry_C4 : opEntry 0xC4#8 = ⟨.cpy, .zeroPage, 2, 3, .none, .unimplemented⟩ := by decide
@[simp] theorem opEntry_C5 : opEntry 0xC5#8 = ⟨.cmp, .zeroPage, 2, 3, .none, .unimplemented⟩ := by decide
@[simp] theorem opEntry_C6 : opEntry 0xC6#8 = ⟨.dec, .zeroPage, 2, 5, .none, .unimplemented⟩ := by decide
@[simp] theorem opEntry_C8 : opEntry 0xC8#8 = ⟨.iny, .none, 1, 2, .none, .unimplemented⟩ := by decide
@[simp] theorem opEntry_C9 : opEntry 0xC9#8 = ⟨.cmp, .immediate, 2, 2, .none, .unimplemented⟩ := by decide
@[simp] theorem opEntry_CA : opEntry 0xCA#8 = ⟨.dex, .none, 1, 2, .none, .implemented⟩ := by decide
@[simp] theorem opEntry_CC : opEntry 0xCC#8 = ⟨.cpy, .absolute, 3, 4, .none, .unimplemented⟩ := by decide
@[simp] theorem opEntry_CD : opEntry 0xCD#8 = ⟨.cmp, .absolute, 3, 4, .none, .unimplemented⟩ := by decide
@[simp] theorem opEntry_CE : opEntry 0xCE#8 = ⟨.dec, .absolute, 3, 6, .none, .unimplemented⟩ := by decide
@[simp] theorem opEntry_D0 : opEntry 0xD0#8 = ⟨.bne, .relative, 2, 2, .branchTaken, .implemented⟩ := by decide
@[simp] theorem opEntry_D1 : opEntry 0xD1#8 = ⟨.cmp, .indirectY, 2, 5, .pageCrossed, .unimplemented⟩ := by decide
@[simp] theorem opEntry_D5 : opEntry 0xD5#8 = ⟨.cmp, .zeroPageX, 2, 4, .none, .unimplemented⟩ := by decide
@[simp] theorem opEntry_D6 : opEntry 0xD6#8 = ⟨.dec, .zeroPageX, 2, 6, .none, .unimplemented⟩ := by decide
@[simp] theorem opEntry_D8 : opEntry 0xD8#8 = ⟨.cld, .none, 1, 2, .none, .unimplemented⟩ := by decide
@[simp] theorem opEntry_D9 : opEntry 0xD9#8 = ⟨.cmp, .absoluteY, 3, 4, .pageCrossed, .unimplemented⟩ := by decide
@[simp] theorem opEntry_DD : opEntry 0xDD#8 = ⟨.cmp, .absoluteX, 3, 4, .pageCrossed, .unimplemented⟩ := by decide
@[simp] theorem opEntry_DE : opEntry 0xDE#8 = ⟨.dec, .absoluteX, 3, 7, .none, .unimplemented⟩ := by decide
@[simp] theorem opEntry_E0 : opEntry 0xE0#8 = ⟨.cpx, .immediate, 2, 2, .none, .unimplemented⟩ := by decide
@[simp] theorem opEntry_E1 : opEntry 0xE1#8 = ⟨.sbc, .indirectX, 2, 6, .none, .unimplemented⟩ := by decide
@[simp] theorem opEntry_E4 : opEntry 0xE4#8 = ⟨.cpx, .zeroPage, 2, 3, .none, .unimplemented⟩ := by decide
@[simp] theorem opEntry_E5 : opEntry 0xE5#8 = ⟨.sbc, .zeroPage, 2, 3, .none, .unimplemented⟩ := by decide
@[simp] theorem opEntry_E6 : opEntry 0xE6#8 = ⟨.inc, .zeroPage, 2, 5, .none, .unimplemented⟩ := by decide
@[simp] theorem opEntry_E8 : opEntry 0xE8#8 = ⟨.inx, .none, 1, 2, .none, .implemented⟩ := by decide
@[simp] theorem opEntry_E9 : opEntry 0xE9#8 = ⟨.sbc, .immediate, 2, 2, .none, .unimplemented⟩ := by decide
@[simp] theorem opEntry_EA : opEntry 0xEA#8 = ⟨.nop, .none, 1, 2, .none, .implemented⟩ := by decide
@[simp] theorem opEntry_EC : opEntry 0xEC#8 = ⟨.cpx, .absolute, 3, 4, .none, .unimplemented⟩ := by decide
@[simp] theorem opEntry_ED : opEntry 0xED#8 = ⟨.sbc, .absolute, 3, 4, .none, .unimplemented⟩ := by decide
@[simp] theorem opEntry_EE : opEntry 0xEE#8 = ⟨.inc, .absolute, 3, 6, .none, .unimplemented⟩ := by decide
@[simp] theorem opEntry_F0 : opEntry 0xF0#8 = ⟨.beq, .relative, 2, 2, .branchTaken, .implemented⟩ := by decide
@[simp] theorem opEntry_F1 : opEntry 0xF1#8 = ⟨.sbc, .indirectY, 2, 5, .pageCrossed, .unimplemented⟩ := by decide
@[simp] theorem opEntry_F5 : opEntry 0xF5#8 = ⟨.sbc, .zeroPageX, 2, 4, .none, .unimplemented⟩ := by decide
@[simp] theorem opEntry_F6 : opEntry 0xF6#8 = ⟨.inc, .zeroPageX, 2, 6, .none, .unimplemented⟩ := by decide
@[simp] theorem opEntry_F8 : opEntry 0xF8#8 = ⟨.sed, .none, 1, 2, .none, .unimplemented⟩ := by decide
@[simp] theorem opEntry_F9 : opEntry 0xF9#8 = ⟨.sbc, .absoluteY, 3, 4, .pageCrossed, .unimplemented⟩ := by decide
@[simp] theorem opEntry_FD : opEntry 0xFD#8 = ⟨.sbc, .absoluteX, 3, 4, .pageCrossed, .unimplemented⟩ := by decide
@[simp] theorem opEntry_FE : opEntry 0xFE#8 = ⟨.inc, .absoluteX, 3, 7, .none, .unimplemented⟩ := by decide

end Sys2Proof
end

