-- ==== Sys2Proof/Laws/Decode.lean ====
section
/-! SUPPORT. The decoder, opcode byte by opcode byte, and what it reads from a long enough list of bytes. -/

namespace Sys2Proof

/-- To show something of every byte, show it of the 256 numerals. -/
theorem byte_cases {P : Byte → Prop} (h : ∀ n, n < 256 → P (BitVec.ofNat 8 n)) (b : Byte) : P b := by
  have hb := h b.toNat b.isLt
  simpa using hb

theorem operandCount_le_two (op : Byte) : operandCount op ≤ 2 := by
  revert op
  decide

/-- Three bytes always hold a whole instruction. -/
theorem decode_three (op b h : Byte) (rest : List Byte) :
    decode (op :: b :: h :: rest) = .ok (decodeOp op b h, (b :: h :: rest).drop (operandCount op)) := by
  have hc := operandCount_le_two op
  have : ¬ rest.length + 1 + 1 < operandCount op := by omega
  simp [decode, this]

/-- The decoder looks at nothing but the opcode byte to find the instruction's opcode. -/
@[simp] theorem opcode_decodeOp (op b h : Byte) : (decodeOp op b h).opcode = op := by
  revert op
  refine byte_cases fun n hn => ?_
  interval_cases n <;> rfl

/-- Everything the decoder makes is well formed. -/
theorem wellFormed_decodeOp (op b h : Byte) : (decodeOp op b h).wellFormed = true := by
  revert op
  refine byte_cases fun n hn => ?_
  interval_cases n <;> rfl

/-- The bits of a table word are decoded as the three bytes they stand for. -/
theorem decodeTableWord_eq (nbits w : Nat) :
    decodeTableWord nbits w = some (decodeOp (tableByte nbits w 0) (tableByte nbits w 1) (tableByte nbits w 2)) := by
  rw [decodeTableWord, tableBytes, decode_three]

end Sys2Proof
end

