-- ==== Sys2Proof/Laws/Exec.lean ====
section
/-! SUPPORT. What `exec` can do, said once: the common no-op, DecodeError, or one of seven shapes of handler. -/

namespace Sys2Proof.Machine

/-- A recognized but unimplemented instruction runs the common no-op of its opcode. -/
theorem exec_unimplemented {i : Instr} (hw : i.wellFormed = true) (h : i.entry.kind = .unimplemented) :
    exec i = runUnimplemented i.opcode := by
  cases i <;> first | (simp [Instr.entry] at h; done) | rfl | simp_all [Instr.entry, Instr.wellFormed]

/-- The undefined instruction takes DecodeError. -/
theorem exec_undefined (op : Byte) : exec (.undefined op) = raiseDecodeError op := rfl

/-- Every instruction is implemented, or is the common no-op of an unimplemented entry, or takes DecodeError. -/
theorem exec_cases (i : Instr) :
    (i.entry.kind = .implemented ∧ ∀ op, i ≠ .undefined op) ∨
    (i.entry.kind = .unimplemented ∧ exec i = runUnimplemented i.opcode ∧ ∀ op, i ≠ .undefined op) ∨
    (∃ op, i = .undefined op) := by
  cases i <;> first
    | exact .inr (.inr ⟨_, rfl⟩)
    | (refine .inr (.inl ⟨?_, ?_, fun _ => nofun⟩); · (simp [Instr.entry]; done)
       rfl)
    | (refine .inl ⟨?_, fun _ => nofun⟩; simp [Instr.entry])

/-- The shapes of the 39 implemented instructions: LDA and AND on a resolved cell or on the immediate byte, ASL on a
resolved cell or on A, the eight register operations and NOP, the branches, BRK. -/
theorem exec_implemented_cases {i : Instr} (hu : ∀ op, i ≠ .undefined op) (h : i.entry.kind = .implemented) :
    (∃ place work, exec i = runHandler i.opcode (readForm place work) ∧
      (work = ldaWork ∧ mnemonicOf i = .lda ∨ work = andWork ∧ mnemonicOf i = .and)) ∨
    (∃ v work, exec i = runHandler i.opcode (immediateForm v work) ∧
      (work = ldaWork ∧ mnemonicOf i = .lda ∨ work = andWork ∧ mnemonicOf i = .and)) ∨
    (∃ place, exec i = runHandler i.opcode (modifyForm place aslWork) ∧ mnemonicOf i = .asl ∧
      ∀ s, storesAt i s = some (place s).1 ∧ (∀ v, place (s.setPC v) = place s) ∧ ∃ a, (place s).1 = .address a) ∨
    (i = .aslAcc ∨ i = .inx ∨ i = .dex ∨ i = .tax ∨ i = .tay ∨ i = .txa ∨ i = .tya ∨ i = .tsx ∨ i = .txs ∨ i = .nop) ∨
    (∃ flag want off, exec i = runHandler i.opcode (branchForm flag want off) ∧
      branchOf i = some (flag, want, off) ∧ i.entry.size = 2 ∧ i.entry.cycles = 2) ∨
    i = .brk := by
  cases i
  case ldaIndX z => exact .inl ⟨atIndirectX z, ldaWork, rfl, Or.inl ⟨rfl, by simp [mnemonicOf, Instr.entry]⟩⟩
  case ldaZp z => exact .inl ⟨atZeroPage z, ldaWork, rfl, Or.inl ⟨rfl, by simp [mnemonicOf, Instr.entry]⟩⟩
  case ldaAbs w => exact .inl ⟨atAbsolute w, ldaWork, rfl, Or.inl ⟨rfl, by simp [mnemonicOf, Instr.entry]⟩⟩
  case ldaIndY z => exact .inl ⟨atIndirectY z, ldaWork, rfl, Or.inl ⟨rfl, by simp [mnemonicOf, Instr.entry]⟩⟩
  case ldaZpX z => exact .inl ⟨atZeroPageX z, ldaWork, rfl, Or.inl ⟨rfl, by simp [mnemonicOf, Instr.entry]⟩⟩
  case ldaAbsY w => exact .inl ⟨atAbsoluteY w, ldaWork, rfl, Or.inl ⟨rfl, by simp [mnemonicOf, Instr.entry]⟩⟩
  case ldaAbsX w => exact .inl ⟨atAbsoluteX w, ldaWork, rfl, Or.inl ⟨rfl, by simp [mnemonicOf, Instr.entry]⟩⟩
  case ldaImm v => exact .inr (.inl ⟨v, ldaWork, rfl, Or.inl ⟨rfl, by simp [mnemonicOf, Instr.entry]⟩⟩)
  case andIndX z => exact .inl ⟨atIndirectX z, andWork, rfl, Or.inr ⟨rfl, by simp [mnemonicOf, Instr.entry]⟩⟩
  case andZp z => exact .inl ⟨atZeroPage z, andWork, rfl, Or.inr ⟨rfl, by simp [mnemonicOf, Instr.entry]⟩⟩
  case andAbs w => exact .inl ⟨atAbsolute w, andWork, rfl, Or.inr ⟨rfl, by simp [mnemonicOf, Instr.entry]⟩⟩
  case andIndY z => exact .inl ⟨atIndirectY z, andWork, rfl, Or.inr ⟨rfl, by simp [mnemonicOf, Instr.entry]⟩⟩
  case andZpX z => exact .inl ⟨atZeroPageX z, andWork, rfl, Or.inr ⟨rfl, by simp [mnemonicOf, Instr.entry]⟩⟩
  case andAbsY w => exact .inl ⟨atAbsoluteY w, andWork, rfl, Or.inr ⟨rfl, by simp [mnemonicOf, Instr.entry]⟩⟩
  case andAbsX w => exact .inl ⟨atAbsoluteX w, andWork, rfl, Or.inr ⟨rfl, by simp [mnemonicOf, Instr.entry]⟩⟩
  case andImm v => exact .inr (.inl ⟨v, andWork, rfl, Or.inr ⟨rfl, by simp [mnemonicOf, Instr.entry]⟩⟩)
  case aslZp z =>
    exact .inr (.inr (.inl ⟨atZeroPage z, rfl, by simp [mnemonicOf, Instr.entry], fun s => ⟨rfl, fun _ => rfl, _, rfl⟩⟩))
  case aslAbs w =>
    exact .inr (.inr (.inl ⟨atAbsolute w, rfl, by simp [mnemonicOf, Instr.entry], fun s => ⟨rfl, fun _ => rfl, _, rfl⟩⟩))
  case aslZpX z =>
    exact .inr (.inr (.inl ⟨atZeroPageX z, rfl, by simp [mnemonicOf, Instr.entry], fun s => ⟨rfl, fun _ => rfl, _, rfl⟩⟩))
  case aslAbsX w =>
    exact .inr (.inr (.inl ⟨atAbsoluteX w, rfl, by simp [mnemonicOf, Instr.entry], fun s => ⟨rfl, fun _ => rfl, _, rfl⟩⟩))
  case bpl off =>
    exact .inr (.inr (.inr (.inr (.inl ⟨.n, false, off, rfl, rfl, by simp [Instr.entry], by simp [Instr.entry]⟩))))
  case bmi off =>
    exact .inr (.inr (.inr (.inr (.inl ⟨.n, true, off, rfl, rfl, by simp [Instr.entry], by simp [Instr.entry]⟩))))
  case bvc off =>
    exact .inr (.inr (.inr (.inr (.inl ⟨.v, false, off, rfl, rfl, by simp [Instr.entry], by simp [Instr.entry]⟩))))
  case bvs off =>
    exact .inr (.inr (.inr (.inr (.inl ⟨.v, true, off, rfl, rfl, by simp [Instr.entry], by simp [Instr.entry]⟩))))
  case bcc off =>
    exact .inr (.inr (.inr (.inr (.inl ⟨.c, false, off, rfl, rfl, by simp [Instr.entry], by simp [Instr.entry]⟩))))
  case bcs off =>
    exact .inr (.inr (.inr (.inr (.inl ⟨.c, true, off, rfl, rfl, by simp [Instr.entry], by simp [Instr.entry]⟩))))
  case bne off =>
    exact .inr (.inr (.inr (.inr (.inl ⟨.z, false, off, rfl, rfl, by simp [Instr.entry], by simp [Instr.entry]⟩))))
  case beq off =>
    exact .inr (.inr (.inr (.inr (.inl ⟨.z, true, off, rfl, rfl, by simp [Instr.entry], by simp [Instr.entry]⟩))))
  case undefined op => exact absurd rfl (hu op)
  case brk => exact .inr (.inr (.inr (.inr (.inr rfl))))
  case aslAcc => exact .inr (.inr (.inr (.inl (by simp))))
  case inx => exact .inr (.inr (.inr (.inl (by simp))))
  case dex => exact .inr (.inr (.inr (.inl (by simp))))
  case tax => exact .inr (.inr (.inr (.inl (by simp))))
  case tay => exact .inr (.inr (.inr (.inl (by simp))))
  case txa => exact .inr (.inr (.inr (.inl (by simp))))
  case tya => exact .inr (.inr (.inr (.inl (by simp))))
  case tsx => exact .inr (.inr (.inr (.inl (by simp))))
  case txs => exact .inr (.inr (.inr (.inl (by simp))))
  case nop => exact .inr (.inr (.inr (.inl (by simp))))
  all_goals simp [Instr.entry] at h

end Sys2Proof.Machine
end

