-- ==== Sys2Proof/Laws/HostOps.lean ====
section
/-! SUPPORT. Where `Run` performs no further step, and where it goes on. -/

namespace Sys2Proof.Machine

/-- Run goes on exactly where the core is neither halted nor faulted. -/
theorem runEndsHere_eq_none (s : State) : runEndsHere s = none ↔ s.halted = false ∧ s.fault = none := by
  cases hf : s.fault <;> cases hh : s.halted <;> simp [runEndsHere, hf, hh]

/-- Where Run ends at once, its bound does not matter. -/
theorem hostRun_of_ends {s : State} {r : RunEnd} (h : runEndsHere s = some r) (n : Nat) : hostRun n s = r := by
  cases n <;> simp [hostRun, h]

/-- Where Run ends at once, it returns the core's latched DecodeError if there is one. -/
theorem returnedError_of_ends {s : State} {r : RunEnd} (h : runEndsHere s = some r) : r.returnedError = s.fault := by
  cases hf : s.fault <;> cases hh : s.halted <;> simp [runEndsHere, hf, hh] at h <;> subst h <;> rfl

end Sys2Proof.Machine
end

