-- ==== Sys2Proof/Laws/PerInstr.lean ====
section
/-! SUPPORT. Statements made per instruction. OperandSize: a well-formed instruction carries exactly the operand bytes
that the size of its table entry asks for (30_encoding R53, R55). -/

namespace Sys2Proof.Laws.OperandSize

open Sys2Proof

/-- The instruction carries as many operand bytes as a decoder of its opcode byte expects. -/
def Statement (i : Instr) : Prop :=
  i.wellFormed = true → i.operandBytes.length = operandCount i.opcode

theorem ldaIndX (z : Byte) : Statement (.ldaIndX z) := by
  simp [Statement, operandCount]
theorem ldaZp (z : Byte) : Statement (.ldaZp z) := by
  simp [Statement, operandCount]
theorem ldaImm (v : Byte) : Statement (.ldaImm v) := by
  simp [Statement, operandCount]
theorem ldaAbs (w : Word) : Statement (.ldaAbs w) := by
  simp [Statement, operandCount]
theorem ldaIndY (z : Byte) : Statement (.ldaIndY z) := by
  simp [Statement, operandCount]
theorem ldaZpX (z : Byte) : Statement (.ldaZpX z) := by
  simp [Statement, operandCount]
theorem ldaAbsY (w : Word) : Statement (.ldaAbsY w) := by
  simp [Statement, operandCount]
theorem ldaAbsX (w : Word) : Statement (.ldaAbsX w) := by
  simp [Statement, operandCount]
theorem andIndX (z : Byte) : Statement (.andIndX z) := by
  simp [Statement, operandCount]
theorem andZp (z : Byte) : Statement (.andZp z) := by
  simp [Statement, operandCount]
theorem andImm (v : Byte) : Statement (.andImm v) := by
  simp [Statement, operandCount]
theorem andAbs (w : Word) : Statement (.andAbs w) := by
  simp [Statement, operandCount]
theorem andIndY (z : Byte) : Statement (.andIndY z) := by
  simp [Statement, operandCount]
theorem andZpX (z : Byte) : Statement (.andZpX z) := by
  simp [Statement, operandCount]
theorem andAbsY (w : Word) : Statement (.andAbsY w) := by
  simp [Statement, operandCount]
theorem andAbsX (w : Word) : Statement (.andAbsX w) := by
  simp [Statement, operandCount]
theorem aslZp (z : Byte) : Statement (.aslZp z) := by
  simp [Statement, operandCount]
theorem aslAcc : Statement (.aslAcc) := by
  simp [Statement, operandCount]
theorem aslAbs (w : Word) : Statement (.aslAbs w) := by
  simp [Statement, operandCount]
theorem aslZpX (z : Byte) : Statement (.aslZpX z) := by
  simp [Statement, operandCount]
theorem aslAbsX (w : Word) : Statement (.aslAbsX w) := by
  simp [Statement, operandCount]
theorem inx : Statement (.inx) := by
  simp [Statement, operandCount]
theorem dex : Statement (.dex) := by
  simp [Statement, operandCount]
theorem tax : Statement (.tax) := by
  simp [Statement, operandCount]
theorem tay : Statement (.tay) := by
  simp [Statement, operandCount]
theorem txa : Statement (.txa) := by
  simp [Statement, operandCount]
theorem tya : Statement (.tya) := by
  simp [Statement, operandCount]
theorem tsx : Statement (.tsx) := by
  simp [Statement, operandCount]
theorem txs : Statement (.txs) := by
  simp [Statement, operandCount]
theorem bpl (off : Byte) : Statement (.bpl off) := by
  simp [Statement, operandCount]
theorem bmi (off : Byte) : Statement (.bmi off) := by
  simp [Statement, operandCount]
theorem bvc (off : Byte) : Statement (.bvc off) := by
  simp [Statement, operandCount]
theorem bvs (off : Byte) : Statement (.bvs off) := by
  simp [Statement, operandCount]
theorem bcc (off : Byte) : Statement (.bcc off) := by
  simp [Statement, operandCount]
theorem bcs (off : Byte) : Statement (.bcs off) := by
  simp [Statement, operandCount]
theorem bne (off : Byte) : Statement (.bne off) := by
  simp [Statement, operandCount]
theorem beq (off : Byte) : Statement (.beq off) := by
  simp [Statement, operandCount]
theorem brk : Statement (.brk) := by
  simp [Statement, operandCount]
theorem nop : Statement (.nop) := by
  simp [Statement, operandCount]
theorem adcIndX (z : Byte) : Statement (.adcIndX z) := by
  simp [Statement, operandCount]
theorem adcZp (z : Byte) : Statement (.adcZp z) := by
  simp [Statement, operandCount]
theorem adcImm (v : Byte) : Statement (.adcImm v) := by
  simp [Statement, operandCount]
theorem adcAbs (w : Word) : Statement (.adcAbs w) := by
  simp [Statement, operandCount]
theorem adcIndY (z : Byte) : Statement (.adcIndY z) := by
  simp [Statement, operandCount]
theorem adcZpX (z : Byte) : Statement (.adcZpX z) := by
  simp [Statement, operandCount]
theorem adcAbsY (w : Word) : Statement (.adcAbsY w) := by
  simp [Statement, operandCount]
theorem adcAbsX (w : Word) : Statement (.adcAbsX w) := by
  simp [Statement, operandCount]
theorem bitZp (z : Byte) : Statement (.bitZp z) := by
  simp [Statement, operandCount]
theorem bitAbs (w : Word) : Statement (.bitAbs w) := by
  simp [Statement, operandCount]
theorem clc : Statement (.clc) := by
  simp [Statement, operandCount]
theorem cld : Statement (.cld) := by
  simp [Statement, operandCount]
theorem cli : Statement (.cli) := by
  simp [Statement, operandCount]
theorem clv : Statement (.clv) := by
  simp [Statement, operandCount]
theorem cmpIndX (z : Byte) : Statement (.cmpIndX z) := by
  simp [Statement, operandCount]
theorem cmpZp (z : Byte) : Statement (.cmpZp z) := by
  simp [Statement, operandCount]
theorem cmpImm (v : Byte) : Statement (.cmpImm v) := by
  simp [Statement, operandCount]
theorem cmpAbs (w : Word) : Statement (.cmpAbs w) := by
  simp [Statement, operandCount]
theorem cmpIndY (z : Byte) : Statement (.cmpIndY z) := by
  simp [Statement, operandCount]
theorem cmpZpX (z : Byte) : Statement (.cmpZpX z) := by
  simp [Statement, operandCount]
theorem cmpAbsY (w : Word) : Statement (.cmpAbsY w) := by
  simp [Statement, operandCount]
theorem cmpAbsX (w : Word) : Statement (.cmpAbsX w) := by
  simp [Statement, operandCount]
theorem cpxImm (v : Byte) : Statement (.cpxImm v) := by
  simp [Statement, operandCount]
theorem cpxZp (z : Byte) : Statement (.cpxZp z) := by
  simp [Statement, operandCount]
theorem cpxAbs (w : Word) : Statement (.cpxAbs w) := by
  simp [Statement, operandCount]
theorem cpyImm (v : Byte) : Statement (.cpyImm v) := by
  simp [Statement, operandCount]
theorem cpyZp (z : Byte) : Statement (.cpyZp z) := by
  simp [Statement, operandCount]
theorem cpyAbs (w : Word) : Statement (.cpyAbs w) := by
  simp [Statement, operandCount]
theorem decZp (z : Byte) : Statement (.decZp z) := by
  simp [Statement, operandCount]
theorem decAbs (w : Word) : Statement (.decAbs w) := by
  simp [Statement, operandCount]
theorem decZpX (z : Byte) : Statement (.decZpX z) := by
  simp [Statement, operandCount]
theorem decAbsX (w : Word) : Statement (.decAbsX w) := by
  simp [Statement, operandCount]
theorem dey : Statement (.dey) := by
  simp [Statement, operandCount]
theorem eorIndX (z : Byte) : Statement (.eorIndX z) := by
  simp [Statement, operandCount]
theorem eorZp (z : Byte) : Statement (.eorZp z) := by
  simp [Statement, operandCount]
theorem eorImm (v : Byte) : Statement (.eorImm v) := by
  simp [Statement, operandCount]
theorem eorAbs (w : Word) : Statement (.eorAbs w) := by
  simp [Statement, operandCount]
theorem eorIndY (z : Byte) : Statement (.eorIndY z) := by
  simp [Statement, operandCount]
theorem eorZpX (z : Byte) : Statement (.eorZpX z) := by
  simp [Statement, operandCount]
theorem eorAbsY (w : Word) : Statement (.eorAbsY w) := by
  simp [Statement, operandCount]
theorem eorAbsX (w : Word) : Statement (.eorAbsX w) := by
  simp [Statement, operandCount]
theorem incZp (z : Byte) : Statement (.incZp z) := by
  simp [Statement, operandCount]
theorem incAbs (w : Word) : Statement (.incAbs w) := by
  simp [Statement, operandCount]
theorem incZpX (z : Byte) : Statement (.incZpX z) := by
  simp [Statement, operandCount]
theorem incAbsX (w : Word) : Statement (.incAbsX w) := by
  simp [Statement, operandCount]
theorem iny : Statement (.iny) := by
  simp [Statement, operandCount]
theorem jmpAbs (w : Word) : Statement (.jmpAbs w) := by
  simp [Statement, operandCount]
theorem jmpInd (w : Word) : Statement (.jmpInd w) := by
  simp [Statement, operandCount]
theorem jsrAbs (w : Word) : Statement (.jsrAbs w) := by
  simp [Statement, operandCount]
theorem ldxImm (v : Byte) : Statement (.ldxImm v) := by
  simp [Statement, operandCount]
theorem ldxZp (z : Byte) : Statement (.ldxZp z) := by
  simp [Statement, operandCount]
theorem ldxAbs (w : Word) : Statement (.ldxAbs w) := by
  simp [Statement, operandCount]
theorem ldxZpY (z : Byte) : Statement (.ldxZpY z) := by
  simp [Statement, operandCount]
theorem ldxAbsY (w : Word) : Statement (.ldxAbsY w) := by
  simp [Statement, operandCount]
theorem ldyImm (v : Byte) : Statement (.ldyImm v) := by
  simp [Statement, operandCount]
theorem ldyZp (z : Byte) : Statement (.ldyZp z) := by
  simp [Statement, operandCount]
theorem ldyAbs (w : Word) : Statement (.ldyAbs w) := by
  simp [Statement, operandCount]
theorem ldyZpX (z : Byte) : Statement (.ldyZpX z) := by
  simp [Statement, operandCount]
theorem ldyAbsX (w : Word) : Statement (.ldyAbsX w) := by
  simp [Statement, operandCount]
theorem lsrZp (z : Byte) : Statement (.lsrZp z) := by
  simp [Statement, operandCount]
theorem lsrAcc : Statement (.lsrAcc) := by
  simp [Statement, operandCount]
theorem lsrAbs (w : Word) : Statement (.lsrAbs w) := by
  simp [Statement, operandCount]
theorem lsrZpX (z : Byte) : Statement (.lsrZpX z) := by
  simp [Statement, operandCount]
theorem lsrAbsX (w : Word) : Statement (.lsrAbsX w) := by
  simp [Statement, operandCount]
theorem oraIndX (z : Byte) : Statement (.oraIndX z) := by
  simp [Statement, operandCount]
theorem oraZp (z : Byte) : Statement (.oraZp z) := by
  simp [Statement, operandCount]
theorem oraImm (v : Byte) : Statement (.oraImm v) := by
  simp [Statement, operandCount]
theorem oraAbs (w : Word) : Statement (.oraAbs w) := by
  simp [Statement, operandCount]
theorem oraIndY (z : Byte) : Statement (.oraIndY z) := by
  simp [Statement, operandCount]
theorem oraZpX (z : Byte) : Statement (.oraZpX z) := by
  simp [Statement, operandCount]
theorem oraAbsY (w : Word) : Statement (.oraAbsY w) := by
  simp [Statement, operandCount]
theorem oraAbsX (w : Word) : Statement (.oraAbsX w) := by
  simp [Statement, operandCount]
theorem pha : Statement (.pha) := by
  simp [Statement, operandCount]
theorem php : Statement (.php) := by
  simp [Statement, operandCount]
theorem pla : Statement (.pla) := by
  simp [Statement, operandCount]
theorem plp : Statement (.plp) := by
  simp [Statement, operandCount]
theorem rolZp (z : Byte) : Statement (.rolZp z) := by
  simp [Statement, operandCount]
theorem rolAcc : Statement (.rolAcc) := by
  simp [Statement, operandCount]
theorem rolAbs (w : Word) : Statement (.rolAbs w) := by
  simp [Statement, operandCount]
theorem rolZpX (z : Byte) : Statement (.rolZpX z) := by
  simp [Statement, operandCount]
theorem rolAbsX (w : Word) : Statement (.rolAbsX w) := by
  simp [Statement, operandCount]
theorem rorZp (z : Byte) : Statement (.rorZp z) := by
  simp [Statement, operandCount]
theorem rorAcc : Statement (.rorAcc) := by
  simp [Statement, operandCount]
theorem rorAbs (w : Word) : Statement (.rorAbs w) := by
  simp [Statement, operandCount]
theorem rorZpX (z : Byte) : Statement (.rorZpX z) := by
  simp [Statement, operandCount]
theorem rorAbsX (w : Word) : Statement (.rorAbsX w) := by
  simp [Statement, operandCount]
theorem rti : Statement (.rti) := by
  simp [Statement, operandCount]
theorem rts : Statement (.rts) := by
  simp [Statement, operandCount]
theorem sbcIndX (z : Byte) : Statement (.sbcIndX z) := by
  simp [Statement, operandCount]
theorem sbcZp (z : Byte) : Statement (.sbcZp z) := by
  simp [Statement, operandCount]
theorem sbcImm (v : Byte) : Statement (.sbcImm v) := by
  simp [Statement, operandCount]
theorem sbcAbs (w : Word) : Statement (.sbcAbs w) := by
  simp [Statement, operandCount]
theorem sbcIndY (z : Byte) : Statement (.sbcIndY z) := by
  simp [Statement, operandCount]
theorem sbcZpX (z : Byte) : Statement (.sbcZpX z) := by
  simp [Statement, operandCount]
theorem sbcAbsY (w : Word) : Statement (.sbcAbsY w) := by
  simp [Statement, operandCount]
theorem sbcAbsX (w : Word) : Statement (.sbcAbsX w) := by
  simp [Statement, operandCount]
theorem sec : Statement (.sec) := by
  simp [Statement, operandCount]
theorem sed : Statement (.sed) := by
  simp [Statement, operandCount]
theorem sei : Statement (.sei) := by
  simp [Statement, operandCount]
theorem staIndX (z : Byte) : Statement (.staIndX z) := by
  simp [Statement, operandCount]
theorem staZp (z : Byte) : Statement (.staZp z) := by
  simp [Statement, operandCount]
theorem staAbs (w : Word) : Statement (.staAbs w) := by
  simp [Statement, operandCount]
theorem staIndY (z : Byte) : Statement (.staIndY z) := by
  simp [Statement, operandCount]
theorem staZpX (z : Byte) : Statement (.staZpX z) := by
  simp [Statement, operandCount]
theorem staAbsY (w : Word) : Statement (.staAbsY w) := by
  simp [Statement, operandCount]
theorem staAbsX (w : Word) : Statement (.staAbsX w) := by
  simp [Statement, operandCount]
theorem stxZp (z : Byte) : Statement (.stxZp z) := by
  simp [Statement, operandCount]
theorem stxAbs (w : Word) : Statement (.stxAbs w) := by
  simp [Statement, operandCount]
theorem stxZpY (z : Byte) : Statement (.stxZpY z) := by
  simp [Statement, operandCount]
theorem styZp (z : Byte) : Statement (.styZp z) := by
  simp [Statement, operandCount]
theorem styAbs (w : Word) : Statement (.styAbs w) := by
  simp [Statement, operandCount]
theorem styZpX (z : Byte) : Statement (.styZpX z) := by
  simp [Statement, operandCount]
theorem undefined (op : Byte) : Statement (.undefined op) := by
  intro h
  have hk : (opEntry op).kind = .undefined := by simpa [Instr.wellFormed] using h
  revert hk
  clear h
  revert op
  decide

end Sys2Proof.Laws.OperandSize
end

