-- ==== Sys2Proof/Laws/Step.lean ====
section
/-! SUPPORT. What a step can do, and that `withFetchWord` makes the next step run the instruction placed. -/

namespace Sys2Proof.Machine

/-- What `fetch` decodes is what the decoder reads from the three bytes at PC. -/
theorem decode_fetchBytes (s : State) :
    decode (fetchBytes s) = .ok (fetch s,
      [Memory.read s.mem (s.pc + 1), Memory.read s.mem (s.pc + 1 + 1)].drop (operandCount (Memory.read s.mem s.pc))) :=
  decode_three _ _ _ []

/-- The opcode of the fetched instruction is the byte at PC. -/
@[simp] theorem opcode_fetch (s : State) : (fetch s).opcode = Memory.read s.mem s.pc := opcode_decodeOp _ _ _

/-- Everything fetched is well formed. -/
theorem wellFormed_fetch (s : State) : (fetch s).wellFormed = true := wellFormed_decodeOp _ _ _

/-- The two ways a step begins. -/
theorem stepKey_cases (key : Option Byte) (s : State) :
    (∃ f, s.fault = some f ∧ stepKey key s = .fault (.decodeError f.op f.addr)) ∨
    (s.fault = none ∧ stepKey key s = exec (fetch (s.writeKey key)) (s.writeKey key)) := by
  cases h : s.fault with
  | some f => exact .inl ⟨f, rfl, by simp [stepKey, beginStep, h]⟩
  | none => exact .inr ⟨rfl, by simp [stepKey, beginStep, h]⟩

/-- A step that answers a next state was not faulted and ran the fetched instruction. -/
theorem stepKey_next {key : Option Byte} {s t : State} (h : stepKey key s = .next t) :
    s.fault = none ∧ exec (fetch (s.writeKey key)) (s.writeKey key) = .next t := by
  obtain ⟨f, _, hf⟩ | ⟨hn, he⟩ := stepKey_cases key s
  · exact absurd (hf.symm.trans h) (by simp)
  · exact ⟨hn, he ▸ h⟩

/-- The key write keeps the canonical form of memory. -/
theorem State.wf_writeKey {s : State} (h : Memory.wf s.mem = true) (key : Option Byte) :
    Memory.wf (s.writeKey key).mem = true := by
  cases key with
  | none => exact h
  | some k => exact Memory.wf_write h _ _

section
variable (key : Option Byte) (s : State)

@[simp] theorem State.writeKey_none : s.writeKey none = s := rfl
@[simp] theorem State.writeKey_some (k : Byte) : s.writeKey (some k) = s.writeByte Config.inputAddr k := rfl
@[simp] theorem State.writeKey_a : (s.writeKey key).a = s.a := by cases key <;> rfl
@[simp] theorem State.writeKey_x : (s.writeKey key).x = s.x := by cases key <;> rfl
@[simp] theorem State.writeKey_y : (s.writeKey key).y = s.y := by cases key <;> rfl
@[simp] theorem State.writeKey_p : (s.writeKey key).p = s.p := by cases key <;> rfl
@[simp] theorem State.writeKey_sp : (s.writeKey key).sp = s.sp := by cases key <;> rfl
@[simp] theorem State.writeKey_pc : (s.writeKey key).pc = s.pc := by cases key <;> rfl
@[simp] theorem State.writeKey_cyc : (s.writeKey key).cyc = s.cyc := by cases key <;> rfl
@[simp] theorem State.writeKey_fault : (s.writeKey key).fault = s.fault := by cases key <;> rfl
@[simp] theorem State.writeKey_keys : (s.writeKey key).keys = s.keys := by cases key <;> rfl
@[simp] theorem State.writeKey_diag : (s.writeKey key).diag = s.diag := by cases key <;> rfl

end

theorem State.nextKey_placeInstruction (s : State) (bytes : List Byte) : (s.placeInstruction bytes).nextKey = none := by
  cases h : s.keys <;> simp [State.placeInstruction, State.nextKey, h]

/-- The three bytes placed at PC are the three bytes fetched. -/
theorem fetchBytes_placeInstruction (s : State) (b0 b1 b2 : Byte) :
    fetchBytes (s.placeInstruction [b0, b1, b2]) = [b0, b1, b2] := by
  have h : s.pc ≠ s.pc + 1#16 + 1#16 := by
    rw [BitVec.add_assoc]
    simp
  simp [fetchBytes, State.placeInstruction, Memory.writeBytes, h]

/-- The next step of `s.withFetchWord nbits w` runs the instruction that the decoder reads from the table bits `w`. -/
theorem step_withFetchWord {s : State} {nbits w : Nat} {i : Instr} (h : decodeTableWord nbits w = some i) :
    step (s.withFetchWord nbits w) = exec i (s.withFetchWord nbits w).dropKey := by
  have hb := fetchBytes_placeInstruction s (tableByte nbits w 0) (tableByte nbits w 1) (tableByte nbits w 2)
  rw [decodeTableWord_eq] at h
  have hi : fetch (s.withFetchWord nbits w).dropKey = i := by
    have hd : ∀ t : State, ∀ c0 c1 c2 : Byte, fetchBytes t = [c0, c1, c2] → fetch t.dropKey = decodeOp c0 c1 c2 := by
      intro t c0 c1 c2 ht
      simp only [fetchBytes, List.cons.injEq, and_true] at ht
      obtain ⟨rfl, rfl, rfl⟩ := ht
      rfl
    rw [← Option.some.inj h]
    exact hd _ _ _ _ hb
  have hk : (s.withFetchWord nbits w).nextKey = none := State.nextKey_placeInstruction s _
  unfold step
  rw [hk]
  obtain ⟨f, hf, _⟩ | ⟨_, he⟩ := stepKey_cases none (s.withFetchWord nbits w).dropKey
  · exact absurd hf (by simp [State.withFetchWord, State.placeInstruction, State.dropKey])
  · rw [he, State.writeKey_none, hi]

end Sys2Proof.Machine
end

