-- ==== Sys2Proof/Tests/Slice0.lean ====
section
/-! SUPPORT. The model's own tests: the vectors of spec/95_test_vectors.md, the decoding of every constructor, the
well-formedness check, and for every statement with hypotheses a concrete input that meets them. -/

namespace Sys2Proof.Machine.Test

/-- The start state of 95_test_vectors section 0: the reset state with PC at `at`, the instruction bytes there, and cells. -/
def place (at_ : Word) (bytes : List Byte) (cells : List (Word × Byte) := []) : State :=
  { State.reset with
    pc := at_
    mem := Memory.writeBytes (cells.foldl (fun m c => Memory.write m c.1 c.2) []) at_ bytes }

/-- The next state of an outcome. -/
def nextOf (r : Result) : Option State :=
  match r with
  | .next t => some t
  | _ => none

/-- One step from `s` answers the next state `want s`. -/
abbrev Answers (s : State) (want : State → State) : Prop := nextOf (step s) = some (want s)

/-- The BRK at PC, with the push offset `offset`, leaves `want s` (the cycles are the step's). -/
abbrev Traps (s : State) (offset : Word) (want : State → State) : Prop := enterTrap s.pc offset s = want s


/-! One step on each vector of spec/95_test_vectors.md, expected results as that file states them. -/

/-- V-ZN-4: UpdateZN(0x80) with P=0x02 before. -/
theorem test_zn_4 :
    Answers { place 0x8000 [0xA9, 0x80] with p := 0x02 } fun s =>
      { s with a := 0x80, p := 0x80, pc := 0x8002, cyc := s.cyc + 2 } := by decide

/-- V-ZN-6: UpdateZN(0x00) with P=0x80 before. -/
theorem test_zn_6 :
    Answers { place 0x8000 [0xA9, 0x00] with p := 0x80 } fun s =>
      { s with p := 0x02, pc := 0x8002, cyc := s.cyc + 2 } := by decide

/-- V-LDA-2: ZeroPage. -/
theorem test_lda_2 :
    Answers (place 0x8000 [0xA5, 0x10] [(0x0010, 0x80)]) fun s =>
      { s with a := 0x80, p := 0x80, pc := 0x8002, cyc := s.cyc + 3 } := by decide

/-- V-LDA-3: ZeroPageX wraps in page 0. -/
theorem test_lda_3 :
    Answers { place 0x8000 [0xB5, 0xF0] [(0x0010, 0x44), (0x0110, 0x99)] with x := 0x20 } fun s =>
      { s with a := 0x44, pc := 0x8002, cyc := s.cyc + 4 } := by decide

/-- V-LDA-4: Absolute, zero result. -/
theorem test_lda_4 :
    Answers { place 0x8000 [0xAD, 0x34, 0x12] [(0x1234, 0x00)] with p := 0x80 } fun s =>
      { s with p := 0x02, pc := 0x8003, cyc := s.cyc + 4 } := by decide

/-- V-LDA-5: AbsoluteX, lo+X=0xFF, no cross. -/
theorem test_lda_5 :
    Answers { place 0x8000 [0xBD, 0x00, 0x12] [(0x12FF, 0x01)] with x := 0xFF } fun s =>
      { s with a := 0x01, pc := 0x8003, cyc := s.cyc + 4 } := by decide

/-- V-LDA-6: AbsoluteX, cross: +1. -/
theorem test_lda_6 :
    Answers { place 0x8000 [0xBD, 0x01, 0x12] [(0x1300, 0x02)] with x := 0xFF } fun s =>
      { s with a := 0x02, pc := 0x8003, cyc := s.cyc + 5 } := by decide

/-- V-LDA-7: AbsoluteY wraps 2^16, cross. -/
theorem test_lda_7 :
    Answers { place 0x8000 [0xB9, 0xF0, 0xFF] [(0x0010, 0x5A)] with y := 0x20 } fun s =>
      { s with a := 0x5A, pc := 0x8003, cyc := s.cyc + 5 } := by decide

/-- V-LDA-8: IndirectX, q=0xFF, high byte from 0x0000. -/
theorem test_lda_8 :
    Answers { place 0x8000 [0xA1, 0xFE] [(0x00FF, 0x34), (0x0000, 0x12), (0x0100, 0x77), (0x1234, 0xC3)] with x := 0x01 } fun s =>
      { s with a := 0xC3, p := 0x80, pc := 0x8002, cyc := s.cyc + 6 } := by decide

/-- V-LDA-9: IndirectY, pointer at 0xFF wraps, cross: +1. -/
theorem test_lda_9 :
    Answers { place 0x8000 [0xB1, 0xFF] [(0x00FF, 0xF8), (0x0000, 0x20), (0x2108, 0x09)] with y := 0x10 } fun s =>
      { s with a := 0x09, pc := 0x8002, cyc := s.cyc + 6 } := by decide

/-- V-LDA-10: IndirectY, no cross. -/
theorem test_lda_10 :
    Answers { place 0x8000 [0xB1, 0x40] [(0x0040, 0x00), (0x0041, 0x30), (0x3005, 0xFE)] with y := 0x05 } fun s =>
      { s with a := 0xFE, p := 0x80, pc := 0x8002, cyc := s.cyc + 5 } := by decide

/-- V-AND-1: Immediate. -/
theorem test_and_1 :
    Answers { place 0x8000 [0x29, 0x0F] with a := 0xF3 } fun s =>
      { s with a := 0x03, pc := 0x8002, cyc := s.cyc + 2 } := by decide

/-- V-AND-2: Immediate, zero result. -/
theorem test_and_2 :
    Answers { place 0x8000 [0x29, 0x0F] with a := 0xF0 } fun s =>
      { s with a := 0x00, p := 0x02, pc := 0x8002, cyc := s.cyc + 2 } := by decide

/-- V-AND-3: ZeroPage, N. -/
theorem test_and_3 :
    Answers { place 0x8000 [0x25, 0x20] [(0x0020, 0x80)] with a := 0xFF } fun s =>
      { s with a := 0x80, p := 0x80, pc := 0x8002, cyc := s.cyc + 3 } := by decide

/-- V-AND-4: ZeroPageX wraps. -/
theorem test_and_4 :
    Answers { place 0x8000 [0x35, 0x80] [(0x0010, 0x0F)] with a := 0x3C, x := 0x90 } fun s =>
      { s with a := 0x0C, pc := 0x8002, cyc := s.cyc + 4 } := by decide

/-- V-AND-5: Absolute, zero. -/
theorem test_and_5 :
    Answers { place 0x8000 [0x2D, 0x00, 0x40] [(0x4000, 0x55)] with a := 0xAA } fun s =>
      { s with a := 0x00, p := 0x02, pc := 0x8003, cyc := s.cyc + 4 } := by decide

/-- V-AND-6: AbsoluteX, cross: +1. -/
theorem test_and_6 :
    Answers { place 0x8000 [0x3D, 0xF0, 0x40] [(0x4100, 0x81)] with a := 0xFF, x := 0x10 } fun s =>
      { s with a := 0x81, p := 0x80, pc := 0x8003, cyc := s.cyc + 5 } := by decide

/-- V-AND-7: AbsoluteY, no cross. -/
theorem test_and_7 :
    Answers { place 0x8000 [0x39, 0x00, 0x40] [(0x4010, 0x7E)] with a := 0xFF, y := 0x10 } fun s =>
      { s with a := 0x7E, pc := 0x8003, cyc := s.cyc + 4 } := by decide

/-- V-AND-8: IndirectX. -/
theorem test_and_8 :
    Answers { place 0x8000 [0x21, 0x10] [(0x0012, 0x00), (0x0013, 0x50), (0x5000, 0x80)] with a := 0xC0, x := 0x02 } fun s =>
      { s with a := 0x80, p := 0x80, pc := 0x8002, cyc := s.cyc + 6 } := by decide

/-- V-AND-9: IndirectY, cross: +1. -/
theorem test_and_9 :
    Answers { place 0x8000 [0x31, 0x10] [(0x0010, 0x90), (0x0011, 0x50), (0x5110, 0x3C)] with a := 0x0F, y := 0x80 } fun s =>
      { s with a := 0x0C, pc := 0x8002, cyc := s.cyc + 6 } := by decide

/-- V-ASL-1: Accumulator: C=1, Z=1. -/
theorem test_asl_1 :
    Answers { place 0x8000 [0x0A] with a := 0x80 } fun s =>
      { s with a := 0x00, p := 0x03, pc := 0x8001, cyc := s.cyc + 2 } := by decide

/-- V-ASL-3: C=1, N=1. -/
theorem test_asl_3 :
    Answers { place 0x8000 [0x0A] with a := 0xFF } fun s =>
      { s with a := 0xFE, p := 0x81, pc := 0x8001, cyc := s.cyc + 2 } := by decide

/-- V-ASL-5: ZeroPage memory. -/
theorem test_asl_5 :
    Answers (place 0x8000 [0x06, 0x30] [(0x0030, 0xC1)]) fun s =>
      { s with p := 0x81, pc := 0x8002, mem := Memory.write s.mem 0x0030 0x82, cyc := s.cyc + 5 } := by decide

/-- V-ASL-6: ZeroPageX wraps. -/
theorem test_asl_6 :
    Answers { place 0x8000 [0x16, 0xFF] [(0x0001, 0x01)] with x := 0x02 } fun s =>
      { s with pc := 0x8002, mem := Memory.write s.mem 0x0001 0x02, cyc := s.cyc + 6 } := by decide

/-- V-ASL-7: Absolute, result 0. -/
theorem test_asl_7 :
    Answers (place 0x8000 [0x0E, 0x00, 0x20] [(0x2000, 0x80)]) fun s =>
      { s with p := 0x03, pc := 0x8003, mem := Memory.write s.mem 0x2000 0x00, cyc := s.cyc + 6 } := by decide

/-- V-ASL-8: AbsoluteX crosses, no charge (7). -/
theorem test_asl_8 :
    Answers { place 0x8000 [0x1E, 0xFF, 0x20] [(0x2100, 0x3F)] with x := 0x01 } fun s =>
      { s with pc := 0x8003, mem := Memory.write s.mem 0x2100 0x7E, cyc := s.cyc + 7 } := by decide

/-- V-REG-1: INX wraps. -/
theorem test_reg_1 :
    Answers { place 0x8000 [0xE8] with x := 0xFF } fun s =>
      { s with x := 0x00, p := 0x02, pc := 0x8001, cyc := s.cyc + 2 } := by decide

/-- V-REG-5: INX keeps C and V. -/
theorem test_reg_5 :
    Answers { place 0x8000 [0xE8] with x := 0x10, p := 0x41 } fun s =>
      { s with x := 0x11, pc := 0x8001, cyc := s.cyc + 2 } := by decide

/-- V-REG-3: DEX wraps. -/
theorem test_reg_3 :
    Answers { place 0x8000 [0xCA] with x := 0x00 } fun s =>
      { s with x := 0xFF, p := 0x80, pc := 0x8001, cyc := s.cyc + 2 } := by decide

/-- V-REG-4: DEX to zero. -/
theorem test_reg_4 :
    Answers { place 0x8000 [0xCA] with x := 0x01 } fun s =>
      { s with x := 0x00, p := 0x02, pc := 0x8001, cyc := s.cyc + 2 } := by decide

/-- V-REG-6: TAX zero. -/
theorem test_reg_6 :
    Answers { place 0x8000 [0xAA] with a := 0x00, x := 0x55 } fun s =>
      { s with x := 0x00, p := 0x02, pc := 0x8001, cyc := s.cyc + 2 } := by decide

/-- V-REG-7: TAY negative. -/
theorem test_reg_7 :
    Answers { place 0x8000 [0xA8] with a := 0xFF } fun s =>
      { s with y := 0xFF, p := 0x80, pc := 0x8001, cyc := s.cyc + 2 } := by decide

/-- V-REG-8: TXA. -/
theorem test_reg_8 :
    Answers { place 0x8000 [0x8A] with x := 0x80, a := 0x01 } fun s =>
      { s with a := 0x80, p := 0x80, pc := 0x8001, cyc := s.cyc + 2 } := by decide

/-- V-REG-9: TYA clears Z, N. -/
theorem test_reg_9 :
    Answers { place 0x8000 [0x98] with y := 0x7F, p := 0x82 } fun s =>
      { s with a := 0x7F, p := 0x00, pc := 0x8001, cyc := s.cyc + 2 } := by decide

/-- V-REG-10: TSX from reset SP. -/
theorem test_reg_10 :
    Answers (place 0x8000 [0xBA]) fun s =>
      { s with x := 0xFF, p := 0x80, pc := 0x8001, cyc := s.cyc + 2 } := by decide

/-- V-REG-11: TSX, SP below page 1. -/
theorem test_reg_11 :
    Answers { place 0x8000 [0xBA] with sp := 0x00FE } fun s =>
      { s with x := 0xFE, p := 0x80, pc := 0x8001, cyc := s.cyc + 2 } := by decide

/-- V-REG-13: TXS, no flags. -/
theorem test_reg_13 :
    Answers { place 0x8000 [0x9A] with x := 0x00, p := 0x00 } fun s =>
      { s with sp := 0x0100, pc := 0x8001, cyc := s.cyc + 2 } := by decide

/-- V-REG-14: TXS keeps P. -/
theorem test_reg_14 :
    Answers { place 0x8000 [0x9A] with x := 0x80, p := 0x82 } fun s =>
      { s with sp := 0x0180, pc := 0x8001, cyc := s.cyc + 2 } := by decide

/-- V-BR-X8: opcode at 0x80FE, next=0x8100, target 0x8102: same page as next, 3 cycles. -/
theorem test_br_x8 :
    Answers { place 0x80FE [0x10, 0x02] with p := 0x00 } fun s =>
      { s with pc := 0x8102, cyc := s.cyc + 3 } := by decide

/-- V-BR-BPL-n: BPL not taken. -/
theorem test_br_bpl_n :
    Answers { place 0x8000 [0x10, 0x10] with p := 0x80 } fun s =>
      { s with pc := 0x8002, cyc := s.cyc + 2 } := by decide

/-- V-BR-BMI-t: BMI taken, same page. -/
theorem test_br_bmi_t :
    Answers { place 0x8000 [0x30, 0x10] with p := 0x80 } fun s =>
      { s with pc := 0x8012, cyc := s.cyc + 3 } := by decide

/-- V-BR-BMI-n: BMI not taken. -/
theorem test_br_bmi_n :
    Answers { place 0x8000 [0x30, 0x10] with p := 0x00 } fun s =>
      { s with pc := 0x8002, cyc := s.cyc + 2 } := by decide

/-- V-BR-BVC-t: BVC taken, same page. -/
theorem test_br_bvc_t :
    Answers { place 0x8000 [0x50, 0x10] with p := 0x00 } fun s =>
      { s with pc := 0x8012, cyc := s.cyc + 3 } := by decide

/-- V-BR-BVC-n: BVC not taken. -/
theorem test_br_bvc_n :
    Answers { place 0x8000 [0x50, 0x10] with p := 0x40 } fun s =>
      { s with pc := 0x8002, cyc := s.cyc + 2 } := by decide

/-- V-BR-BVS-t: BVS taken, same page. -/
theorem test_br_bvs_t :
    Answers { place 0x8000 [0x70, 0x10] with p := 0x40 } fun s =>
      { s with pc := 0x8012, cyc := s.cyc + 3 } := by decide

/-- V-BR-BVS-n: BVS not taken. -/
theorem test_br_bvs_n :
    Answers { place 0x8000 [0x70, 0x10] with p := 0x00 } fun s =>
      { s with pc := 0x8002, cyc := s.cyc + 2 } := by decide

/-- V-BR-X9: next=0x8100, target 0x80FE: crosses, 4 cycles. -/
theorem test_br_x9 :
    Answers { place 0x80FE [0x90, 0xFE] with p := 0x00 } fun s =>
      { s with pc := 0x80FE, cyc := s.cyc + 4 } := by decide

/-- V-BR-BCC-n: BCC not taken. -/
theorem test_br_bcc_n :
    Answers { place 0x8000 [0x90, 0x10] with p := 0x01 } fun s =>
      { s with pc := 0x8002, cyc := s.cyc + 2 } := by decide

/-- V-BR-BCS-t: BCS taken, same page. -/
theorem test_br_bcs_t :
    Answers { place 0x8000 [0xB0, 0x10] with p := 0x01 } fun s =>
      { s with pc := 0x8012, cyc := s.cyc + 3 } := by decide

/-- V-BR-BCS-n: BCS not taken. -/
theorem test_br_bcs_n :
    Answers { place 0x8000 [0xB0, 0x10] with p := 0x00 } fun s =>
      { s with pc := 0x8002, cyc := s.cyc + 2 } := by decide

/-- V-BR-X7: wraps 2^16: next=0xFFF2, target 0x0071. -/
theorem test_br_x7 :
    Answers { place 0xFFF0 [0xD0, 0x7F] with p := 0x00 } fun s =>
      { s with pc := 0x0071, cyc := s.cyc + 4 } := by decide

/-- V-BR-BNE-n: BNE not taken. -/
theorem test_br_bne_n :
    Answers { place 0x8000 [0xD0, 0x10] with p := 0x02 } fun s =>
      { s with pc := 0x8002, cyc := s.cyc + 2 } := by decide

/-- V-BR-X2: backward across a page: next=0x8012, target 0x7F92. -/
theorem test_br_x2 :
    Answers { place 0x8010 [0xF0, 0x80] with p := 0x02 } fun s =>
      { s with pc := 0x7F92, cyc := s.cyc + 4 } := by decide

/-- V-BR-BEQ-n: BEQ not taken. -/
theorem test_br_beq_n :
    Answers { place 0x8000 [0xF0, 0x10] with p := 0x00 } fun s =>
      { s with pc := 0x8002, cyc := s.cyc + 2 } := by decide

/-- V-NOP-1: NOP: no event. -/
theorem test_nop_1 :
    Answers { place 0x8000 [0xEA] with p := 0xEF } fun s =>
      { s with pc := 0x8001, cyc := s.cyc + 2 } := by decide

/-- V-NOP-2: JMP abs: falls through. -/
theorem test_nop_2 :
    Answers (place 0x8000 [0x4C, 0x00, 0x90]) fun s =>
      { s with pc := 0x8003, cyc := s.cyc + 3, diag := [⟨0x4C, 0x8000⟩] } := by decide

/-- V-NOP-3: STA abs stores nothing. -/
theorem test_nop_3 :
    Answers { place 0x8000 [0x8D, 0x00, 0x02] with a := 0x55 } fun s =>
      { s with pc := 0x8003, cyc := s.cyc + 4, diag := [⟨0x8D, 0x8000⟩] } := by decide

/-- V-NOP-4: LDX abs,Y with cross: no page charge, no load. -/
theorem test_nop_4 :
    Answers { place 0x8000 [0xBE, 0xFF, 0x20] with y := 0x01 } fun s =>
      { s with pc := 0x8003, cyc := s.cyc + 4, diag := [⟨0xBE, 0x8000⟩] } := by decide

/-- V-NOP-5: JSR: no push, falls through. -/
theorem test_nop_5 :
    Answers (place 0x8000 [0x20, 0x00, 0x90]) fun s =>
      { s with pc := 0x8003, cyc := s.cyc + 6, diag := [⟨0x20, 0x8000⟩] } := by decide

/-- V-NOP-6: RTI: no pull, SP unchanged. -/
theorem test_nop_6 :
    Answers (place 0x8000 [0x40]) fun s =>
      { s with pc := 0x8001, cyc := s.cyc + 6, diag := [⟨0x40, 0x8000⟩] } := by decide

/-- V-NOP-7: SEC: C stays 0. -/
theorem test_nop_7 :
    Answers (place 0x8000 [0x38]) fun s =>
      { s with pc := 0x8001, cyc := s.cyc + 2, diag := [⟨0x38, 0x8000⟩] } := by decide

/-- V-NOP-8: INC abs,X: memory unchanged, 7 cycles. -/
theorem test_nop_8 :
    Answers { place 0x8000 [0xFE, 0x00, 0x30] [(0x30FF, 0x10)] with x := 0xFF } fun s =>
      { s with pc := 0x8003, cyc := s.cyc + 7, diag := [⟨0xFE, 0x8000⟩] } := by decide

/-- V-NOP-9: 3-byte no-op at 0xFFFE: PC wraps to 0x0001. -/
theorem test_nop_9 :
    Answers (place 0xFFFE [0x4C]) fun s =>
      { s with pc := 0x0001, cyc := s.cyc + 3, diag := [⟨0x4C, 0xFFFE⟩] } := by decide

/-- V-DEC-1: undefined 0x02: DecodeError, FAULT latched, CYC+0. -/
theorem test_dec_1 :
    Answers (place 0x8000 [0x02]) fun s =>
      { s with pc := 0x8000, cyc := s.cyc + 0, fault := some ⟨0x02, 0x8000⟩ } := by decide

/-- V-DEC-3: undefined 0xFF. -/
theorem test_dec_3 :
    Answers { place 0x8000 [0xFF] with a := 0x11 } fun s =>
      { s with pc := 0x8000, cyc := s.cyc + 0, fault := some ⟨0xFF, 0x8000⟩ } := by decide

/-- V-DEC-5: no key: input byte unchanged. -/
theorem test_dec_5 :
    Answers (place 0x8000 [0xA5, 0xFF] [(0x00FF, 0x07)]) fun s =>
      { s with a := 0x07, pc := 0x8002, cyc := s.cyc + 3 } := by decide

/-- V-BRK-2, with the offset 3: BRK_PUSH_OFFSET=3. -/
theorem test_brk_2 :
    Traps (place 0x8003 [0x00] [(0xFFFE, 0x00), (0xFFFF, 0x90)]) 3 fun s =>
      { s with p := 0x10, sp := 0x01FC, pc := 0x9000, mem := Memory.write (Memory.write (Memory.write s.mem 0x01FD 0x10) 0x01FE 0x06) 0x01FF 0x80 } := by decide

/-- V-BRK-4, with the offset 2: pushes wrap below 0x0000 (10_state.md rule R25); the third push overwrites 0xFFFF, the vector's high byte, so PC = 0x1000. -/
theorem test_brk_4 :
    Traps { place 0x4000 [0x00] with sp := 0x0001 } 2 fun s =>
      { s with p := 0x10, sp := 0xFFFE, pc := 0x1000, mem := Memory.write (Memory.write (Memory.write s.mem 0x0000 0x02) 0x0001 0x40) 0xFFFF 0x10 } := by decide

/-! Every constructor, decoded from a word written out from the encoding column of the table (30_encoding R53, R63): byte 0
is the printed bit string, then the operand bytes 0x9D, or 0xF4 and 0x12 for a 16-bit address low byte first. -/

theorem test_decode_load_logic_shift :
    decodeTableWord 16 0x9D06 = some (.aslZp 0x9D) ∧
    decodeTableWord 8 0x0A = some .aslAcc ∧
    decodeTableWord 24 0x12F40E = some (.aslAbs 0x12F4) ∧
    decodeTableWord 16 0x9D16 = some (.aslZpX 0x9D) ∧
    decodeTableWord 24 0x12F41E = some (.aslAbsX 0x12F4) ∧
    decodeTableWord 16 0x9D21 = some (.andIndX 0x9D) ∧
    decodeTableWord 16 0x9D25 = some (.andZp 0x9D) ∧
    decodeTableWord 16 0x9D29 = some (.andImm 0x9D) ∧
    decodeTableWord 24 0x12F42D = some (.andAbs 0x12F4) ∧
    decodeTableWord 16 0x9D31 = some (.andIndY 0x9D) ∧
    decodeTableWord 16 0x9D35 = some (.andZpX 0x9D) ∧
    decodeTableWord 24 0x12F439 = some (.andAbsY 0x12F4) ∧
    decodeTableWord 24 0x12F43D = some (.andAbsX 0x12F4) ∧
    decodeTableWord 16 0x9DA1 = some (.ldaIndX 0x9D) ∧
    decodeTableWord 16 0x9DA5 = some (.ldaZp 0x9D) ∧
    decodeTableWord 16 0x9DA9 = some (.ldaImm 0x9D) ∧
    decodeTableWord 24 0x12F4AD = some (.ldaAbs 0x12F4) ∧
    decodeTableWord 16 0x9DB1 = some (.ldaIndY 0x9D) ∧
    decodeTableWord 16 0x9DB5 = some (.ldaZpX 0x9D) ∧
    decodeTableWord 24 0x12F4B9 = some (.ldaAbsY 0x12F4) ∧
    decodeTableWord 24 0x12F4BD = some (.ldaAbsX 0x12F4) := by decide

theorem test_decode_register :
    decodeTableWord 8 0x8A = some .txa ∧
    decodeTableWord 8 0x98 = some .tya ∧
    decodeTableWord 8 0x9A = some .txs ∧
    decodeTableWord 8 0xA8 = some .tay ∧
    decodeTableWord 8 0xAA = some .tax ∧
    decodeTableWord 8 0xBA = some .tsx ∧
    decodeTableWord 8 0xCA = some .dex ∧
    decodeTableWord 8 0xE8 = some .inx := by decide

theorem test_decode_branch_and_brk :
    decodeTableWord 8 0x00 = some .brk ∧
    decodeTableWord 16 0x9D10 = some (.bpl 0x9D) ∧
    decodeTableWord 16 0x9D30 = some (.bmi 0x9D) ∧
    decodeTableWord 16 0x9D50 = some (.bvc 0x9D) ∧
    decodeTableWord 16 0x9D70 = some (.bvs 0x9D) ∧
    decodeTableWord 16 0x9D90 = some (.bcc 0x9D) ∧
    decodeTableWord 16 0x9DB0 = some (.bcs 0x9D) ∧
    decodeTableWord 16 0x9DD0 = some (.bne 0x9D) ∧
    decodeTableWord 8 0xEA = some .nop ∧
    decodeTableWord 16 0x9DF0 = some (.beq 0x9D) := by decide

theorem test_decode_adc_bit_compare :
    decodeTableWord 16 0x9D24 = some (.bitZp 0x9D) ∧
    decodeTableWord 24 0x12F42C = some (.bitAbs 0x12F4) ∧
    decodeTableWord 16 0x9D61 = some (.adcIndX 0x9D) ∧
    decodeTableWord 16 0x9D65 = some (.adcZp 0x9D) ∧
    decodeTableWord 16 0x9D69 = some (.adcImm 0x9D) ∧
    decodeTableWord 24 0x12F46D = some (.adcAbs 0x12F4) ∧
    decodeTableWord 16 0x9D71 = some (.adcIndY 0x9D) ∧
    decodeTableWord 16 0x9D75 = some (.adcZpX 0x9D) ∧
    decodeTableWord 24 0x12F479 = some (.adcAbsY 0x12F4) ∧
    decodeTableWord 24 0x12F47D = some (.adcAbsX 0x12F4) ∧
    decodeTableWord 16 0x9DC0 = some (.cpyImm 0x9D) ∧
    decodeTableWord 16 0x9DC1 = some (.cmpIndX 0x9D) ∧
    decodeTableWord 16 0x9DC4 = some (.cpyZp 0x9D) ∧
    decodeTableWord 16 0x9DC5 = some (.cmpZp 0x9D) ∧
    decodeTableWord 16 0x9DC9 = some (.cmpImm 0x9D) ∧
    decodeTableWord 24 0x12F4CC = some (.cpyAbs 0x12F4) ∧
    decodeTableWord 24 0x12F4CD = some (.cmpAbs 0x12F4) ∧
    decodeTableWord 16 0x9DD1 = some (.cmpIndY 0x9D) ∧
    decodeTableWord 16 0x9DD5 = some (.cmpZpX 0x9D) ∧
    decodeTableWord 24 0x12F4D9 = some (.cmpAbsY 0x12F4) ∧
    decodeTableWord 24 0x12F4DD = some (.cmpAbsX 0x12F4) ∧
    decodeTableWord 16 0x9DE0 = some (.cpxImm 0x9D) ∧
    decodeTableWord 16 0x9DE4 = some (.cpxZp 0x9D) ∧
    decodeTableWord 24 0x12F4EC = some (.cpxAbs 0x12F4) := by decide

theorem test_decode_sbc_eor_ora :
    decodeTableWord 16 0x9D01 = some (.oraIndX 0x9D) ∧
    decodeTableWord 16 0x9D05 = some (.oraZp 0x9D) ∧
    decodeTableWord 16 0x9D09 = some (.oraImm 0x9D) ∧
    decodeTableWord 24 0x12F40D = some (.oraAbs 0x12F4) ∧
    decodeTableWord 16 0x9D11 = some (.oraIndY 0x9D) ∧
    decodeTableWord 16 0x9D15 = some (.oraZpX 0x9D) ∧
    decodeTableWord 24 0x12F419 = some (.oraAbsY 0x12F4) ∧
    decodeTableWord 24 0x12F41D = some (.oraAbsX 0x12F4) ∧
    decodeTableWord 16 0x9D41 = some (.eorIndX 0x9D) ∧
    decodeTableWord 16 0x9D45 = some (.eorZp 0x9D) ∧
    decodeTableWord 16 0x9D49 = some (.eorImm 0x9D) ∧
    decodeTableWord 24 0x12F44D = some (.eorAbs 0x12F4) ∧
    decodeTableWord 16 0x9D51 = some (.eorIndY 0x9D) ∧
    decodeTableWord 16 0x9D55 = some (.eorZpX 0x9D) ∧
    decodeTableWord 24 0x12F459 = some (.eorAbsY 0x12F4) ∧
    decodeTableWord 24 0x12F45D = some (.eorAbsX 0x12F4) ∧
    decodeTableWord 16 0x9DE1 = some (.sbcIndX 0x9D) ∧
    decodeTableWord 16 0x9DE5 = some (.sbcZp 0x9D) ∧
    decodeTableWord 16 0x9DE9 = some (.sbcImm 0x9D) ∧
    decodeTableWord 24 0x12F4ED = some (.sbcAbs 0x12F4) ∧
    decodeTableWord 16 0x9DF1 = some (.sbcIndY 0x9D) ∧
    decodeTableWord 16 0x9DF5 = some (.sbcZpX 0x9D) ∧
    decodeTableWord 24 0x12F4F9 = some (.sbcAbsY 0x12F4) ∧
    decodeTableWord 24 0x12F4FD = some (.sbcAbsX 0x12F4) := by decide

theorem test_decode_shift_and_step_memory :
    decodeTableWord 16 0x9D26 = some (.rolZp 0x9D) ∧
    decodeTableWord 8 0x2A = some .rolAcc ∧
    decodeTableWord 24 0x12F42E = some (.rolAbs 0x12F4) ∧
    decodeTableWord 16 0x9D36 = some (.rolZpX 0x9D) ∧
    decodeTableWord 24 0x12F43E = some (.rolAbsX 0x12F4) ∧
    decodeTableWord 16 0x9D46 = some (.lsrZp 0x9D) ∧
    decodeTableWord 8 0x4A = some .lsrAcc ∧
    decodeTableWord 24 0x12F44E = some (.lsrAbs 0x12F4) ∧
    decodeTableWord 16 0x9D56 = some (.lsrZpX 0x9D) ∧
    decodeTableWord 24 0x12F45E = some (.lsrAbsX 0x12F4) ∧
    decodeTableWord 16 0x9D66 = some (.rorZp 0x9D) ∧
    decodeTableWord 8 0x6A = some .rorAcc ∧
    decodeTableWord 24 0x12F46E = some (.rorAbs 0x12F4) ∧
    decodeTableWord 16 0x9D76 = some (.rorZpX 0x9D) ∧
    decodeTableWord 24 0x12F47E = some (.rorAbsX 0x12F4) ∧
    decodeTableWord 16 0x9DC6 = some (.decZp 0x9D) ∧
    decodeTableWord 24 0x12F4CE = some (.decAbs 0x12F4) ∧
    decodeTableWord 16 0x9DD6 = some (.decZpX 0x9D) ∧
    decodeTableWord 24 0x12F4DE = some (.decAbsX 0x12F4) ∧
    decodeTableWord 16 0x9DE6 = some (.incZp 0x9D) ∧
    decodeTableWord 24 0x12F4EE = some (.incAbs 0x12F4) ∧
    decodeTableWord 16 0x9DF6 = some (.incZpX 0x9D) ∧
    decodeTableWord 24 0x12F4FE = some (.incAbsX 0x12F4) := by decide

theorem test_decode_flags_and_y :
    decodeTableWord 8 0x18 = some .clc ∧
    decodeTableWord 8 0x38 = some .sec ∧
    decodeTableWord 8 0x58 = some .cli ∧
    decodeTableWord 8 0x78 = some .sei ∧
    decodeTableWord 8 0x88 = some .dey ∧
    decodeTableWord 8 0xB8 = some .clv ∧
    decodeTableWord 8 0xC8 = some .iny ∧
    decodeTableWord 8 0xD8 = some .cld ∧
    decodeTableWord 8 0xF8 = some .sed := by decide

theorem test_decode_load_and_store :
    decodeTableWord 16 0x9D81 = some (.staIndX 0x9D) ∧
    decodeTableWord 16 0x9D84 = some (.styZp 0x9D) ∧
    decodeTableWord 16 0x9D85 = some (.staZp 0x9D) ∧
    decodeTableWord 16 0x9D86 = some (.stxZp 0x9D) ∧
    decodeTableWord 24 0x12F48C = some (.styAbs 0x12F4) ∧
    decodeTableWord 24 0x12F48D = some (.staAbs 0x12F4) ∧
    decodeTableWord 24 0x12F48E = some (.stxAbs 0x12F4) ∧
    decodeTableWord 16 0x9D91 = some (.staIndY 0x9D) ∧
    decodeTableWord 16 0x9D94 = some (.styZpX 0x9D) ∧
    decodeTableWord 16 0x9D95 = some (.staZpX 0x9D) ∧
    decodeTableWord 16 0x9D96 = some (.stxZpY 0x9D) ∧
    decodeTableWord 24 0x12F499 = some (.staAbsY 0x12F4) ∧
    decodeTableWord 24 0x12F49D = some (.staAbsX 0x12F4) ∧
    decodeTableWord 16 0x9DA0 = some (.ldyImm 0x9D) ∧
    decodeTableWord 16 0x9DA2 = some (.ldxImm 0x9D) ∧
    decodeTableWord 16 0x9DA4 = some (.ldyZp 0x9D) ∧
    decodeTableWord 16 0x9DA6 = some (.ldxZp 0x9D) ∧
    decodeTableWord 24 0x12F4AC = some (.ldyAbs 0x12F4) ∧
    decodeTableWord 24 0x12F4AE = some (.ldxAbs 0x12F4) ∧
    decodeTableWord 16 0x9DB4 = some (.ldyZpX 0x9D) ∧
    decodeTableWord 16 0x9DB6 = some (.ldxZpY 0x9D) ∧
    decodeTableWord 24 0x12F4BC = some (.ldyAbsX 0x12F4) ∧
    decodeTableWord 24 0x12F4BE = some (.ldxAbsY 0x12F4) := by decide

theorem test_decode_jump_return_stack :
    decodeTableWord 8 0x08 = some .php ∧
    decodeTableWord 24 0x12F420 = some (.jsrAbs 0x12F4) ∧
    decodeTableWord 8 0x28 = some .plp ∧
    decodeTableWord 8 0x40 = some .rti ∧
    decodeTableWord 8 0x48 = some .pha ∧
    decodeTableWord 24 0x12F44C = some (.jmpAbs 0x12F4) ∧
    decodeTableWord 8 0x60 = some .rts ∧
    decodeTableWord 8 0x68 = some .pla ∧
    decodeTableWord 24 0x12F46C = some (.jmpInd 0x12F4) := by decide

theorem test_decode_undefined :
    decodeTableWord 8 0x02 = some (.undefined 0x02) ∧
    decodeTableWord 8 0x80 = some (.undefined 0x80) ∧
    decodeTableWord 8 0xEB = some (.undefined 0xEB) ∧
    decodeTableWord 8 0xFF = some (.undefined 0xFF) := by decide

theorem test_encode_words :
    encode (.ldaAbsX 0x1234) = [0xBD, 0x34, 0x12] ∧ encode (.beq 0x10) = [0xF0, 0x10] ∧ encode .brk = [0x00] ∧
    encode (.undefined 0x02) = [0x02] := by decide

/-- The one check of `Instr.wellFormed`: the byte of `undefined` must be undefined; 0xEA is NOP. -/
theorem test_wellFormed_refuses_defined_byte : (Instr.undefined 0xEA).wellFormed = false := by decide

theorem test_wellFormed_accepts_undefined_byte : (Instr.undefined 0x02).wellFormed = true := by decide

/-! The resolver, memory and host vectors of 95_test_vectors section 4. -/

/-- V-RES-1: Indirect reads the high byte at 0x1100, not at 0x1000. -/
theorem test_res_1 :
    resolve .indirect (place 0x8001 [0xFF, 0x10] [(0x10FF, 0x34), (0x1100, 0x12), (0x1000, 0x56)]) =
      (some (.address 0x1234), false) := by decide

/-- V-RES-2: ZeroPageY wraps in page 0. -/
theorem test_res_2 :
    resolve .zeroPageY { place 0x8001 [0xF0] with y := 0x20 } = (some (.address 0x0010), false) := by decide

/-- V-RES-3 to V-RES-6: None, Accumulator, Immediate and Relative. -/
theorem test_res_3_to_6 :
    resolve .none (place 0x8001 []) = (none, false) ∧
    resolve .accumulator (place 0x8001 []) = (some .accumulator, false) ∧
    resolve .immediate (place 0x8001 []) = (some (.address 0x8001), false) ∧
    resolve .relative (place 0x8001 []) = (some (.address 0x8001), false) := by decide

/-- V-RES-7: AbsoluteX wraps modulo 2^16, with a cross. -/
theorem test_res_7 :
    resolve .absoluteX { place 0x8001 [0xF0, 0xFF] with x := 0x20 } = (some (.address 0x0010), true) := by decide

/-- V-RES-8: IndirectY, high byte from 0x0000, and 0x00 + 0xFF does not carry. -/
theorem test_res_8 :
    resolve .indirectY { place 0x8001 [0xFF] [(0x00FF, 0x00), (0x0000, 0x30), (0x0100, 0x99)] with y := 0xFF } =
      (some (.address 0x30FF), false) := by decide

/-- V-MEM-1: a word read at 0xFFFF takes its high byte from 0x0000. -/
theorem test_mem_1 : Memory.readWord (place 0xFFFF [0xCD, 0xAB]).mem 0xFFFF = 0xABCD := by decide

/-- V-MEM-2: a word write at 0xFFFF puts its high byte at 0x0000. -/
theorem test_mem_2 : Memory.writeWord [] 0xFFFF 0x1234 = [(0x0000, 0x12), (0xFFFF, 0x34)] := by decide

/-- Writing what an unlisted address reads as removes the cell, so the canonical form is unique (log 1). -/
theorem test_mem_canonical : Memory.write [(0x0005, 0x01), (0x0009, 0x02)] 0x0005 0x00 = [(0x0009, 0x02)] := by decide

/-- V-HOST-1: the vector write overwrites the image at 0xFFFC and 0xFFFD; Reset then gives PC = 0xFFFB. -/
theorem test_host_1 :
    (nextOf (hostLoad [0xEA, 0xEA, 0xEA] 0xFFFB State.reset)).map (fun t => (t.mem, (hostReset t).pc)) =
      some ([(0xFFFB, 0xEA), (0xFFFC, 0xFB), (0xFFFD, 0xFF)], 0xFFFB) := by decide

/-- V-HOST-2: an image that runs past 0xFFFF is refused. -/
theorem test_host_2 : hostLoad [0x01, 0x02, 0x03] 0xFFFE State.reset = .refused .imageTooLong := rfl

/-- V-HOST-3: Reset from a faulted core with CYC = 99. -/
theorem test_host_3 :
    hostReset { place 0xFFFC [0x00, 0x80] with cyc := 99, fault := some ⟨0x02, 0x8002⟩, a := 1, x := 2, y := 3, p := 4, sp := 5 } =
      { place 0xFFFC [0x00, 0x80] with pc := 0x8000, sp := 0x01FF } := by decide

/-- V-HOST-6: Run of a halted core performs no step. -/
theorem test_host_6 : hostRun 1 { State.reset with p := 0x10 } = .halted none { State.reset with p := 0x10 } := by decide

/-- R159: Run of a faulted core returns its DecodeError at once. -/
theorem test_run_faulted :
    hostRun 0 { State.reset with fault := some ⟨0x02, 0x8002⟩ } =
      .decodeError ⟨0x02, 0x8002⟩ { State.reset with fault := some ⟨0x02, 0x8002⟩ } := by decide

/-- Run of a core both halted and faulted: Halted (R76), and the DecodeError returned at once (R159; log 19). -/
theorem test_run_halted_and_faulted :
    hostRun 1 { State.reset with p := 0x10, fault := some ⟨0x02, 0x8002⟩ } =
      .halted (some ⟨0x02, 0x8002⟩) { State.reset with p := 0x10, fault := some ⟨0x02, 0x8002⟩ } ∧
    (hostRun 1 { State.reset with p := 0x10, fault := some ⟨0x02, 0x8002⟩ }).returnedError = some ⟨0x02, 0x8002⟩ := by decide

/-- V-DEC-4, for whatever address INPUT_ADDR is: the key is in its cell before the fetch. -/
theorem test_dec_4 (s : State) : Memory.read (s.writeKey (some 0x41)).mem Config.inputAddr = 0x41 := by simp

/-- V-DEC-2, a later step: a faulted core answers the latched error, whatever key comes. -/
theorem test_dec_2_later_step :
    stepKey (some 0x41) { State.reset with fault := some ⟨0x02, 0x8000⟩ } = .fault (.decodeError 0x02 0x8000) := rfl

/-- BRK costs 7 cycles, sets P.B and moves SP by 3, whichever the push offset is (95 section 2.7). -/
theorem test_brk_step :
    (nextOf (step (place 0x8003 [0x00]))).map (fun t => (t.cyc, t.p, t.sp, t.fault)) = some (7, 0x10, 0x01FC, none) := by decide

/-! `withFetchWord`: the next step runs the instruction placed, as the first one after reset. -/

theorem test_withFetchWord_lda :
    Answers (State.reset.withFetchWord 16 0x80A9) fun s => { s with a := 0x80, p := 0x80, pc := 0x0002, cyc := 2 } := by decide

theorem test_withFetchWord_undefined :
    Answers (State.reset.withFetchWord 8 0x02) fun s => { s with fault := some ⟨0x02, 0x0000⟩ } := by decide

theorem test_withFetchWord_is_decoded :
    step (State.reset.withFetchWord 24 0x12344C) = exec (.jmpAbs 0x1234) (State.reset.withFetchWord 24 0x12344C).dropKey :=
  step_withFetchWord (by decide)

/-! Witnesses: for each statement with hypotheses, an input that meets them all, one for each clause at a boundary. -/

/-- A next state of a decidable test, as an equation. -/
theorem of_nextOf {r : Result} {t : State} (h : nextOf r = some t) : r = .next t := by
  cases r <;> simp_all [nextOf]

theorem witness_InvariantHoldsAtReset : Memory.wf [(0x0000, 0x01), (0xFFFF, 0xFF)] = true := by decide

theorem witness_CanonicalMemoriesWithEqualBytesAreEqual :
    ∃ m n : Memory, Memory.wf m = true ∧ Memory.wf n = true ∧ (∀ a : Word, Memory.read m a = Memory.read n a) ∧ m ≠ [] :=
  ⟨[(0xFFFF, 0x01)], [(0xFFFF, 0x01)], by decide, by decide, fun _ => rfl, by decide⟩

theorem witness_UnimplementedOpcodesAreTheCommonNoop :
    (Instr.jmpInd 0xFFFF).wellFormed = true ∧ (Instr.jmpInd 0xFFFF).entry.kind = .unimplemented := by decide

theorem witness_UndefinedByteLatchesTheFault : (opEntry 0x02).kind = .undefined ∧ (opEntry 0xFF).kind = .undefined := by decide

theorem witness_DecodeOfEncodeIsTheInstruction :
    (Instr.staAbsY 0xFFFF).wellFormed = true ∧ (Instr.undefined 0xFF).wellFormed = true := by decide

theorem witness_EncodeOfDecodeIsTheBytes :
    decode [0xBD, 0x34, 0x12, 0x00] = .ok (.ldaAbsX 0x1234, [0x00]) ∧ decode [0xFF] = .ok (.undefined 0xFF, []) := ⟨rfl, rfl⟩

/-- Both sides of the equivalence, at the shortest list that decodes and the longest that does not, and an undefined byte
with bytes after it. -/
theorem witness_DecoderRejectsOnlyMissingBytes :
    decode [0xBD, 0x34] = .error (.missingOperand 0xBD) ∧ [(0x34 : Byte)].length + 1 < (opEntry 0xBD).size ∧
    decode [0xBD, 0x34, 0x12] = .ok (.ldaAbsX 0x1234, []) ∧ ¬ [(0x34 : Byte), 0x12].length + 1 < (opEntry 0xBD).size ∧
    decode [0xFF, 0x34] = .ok (.undefined 0xFF, [0x34]) ∧ (opEntry 0xFF).kind = .undefined :=
  ⟨rfl, by decide, rfl, by decide, rfl, by decide⟩

/-- At the top of the address space, with the argument `none` next in line. -/
theorem witness_StepRunsTheDecodedInstruction :
    let s : State := { place 0xFFFF [0xAD, 0x34, 0x12] with keys := [none] }
    s.fault = none ∧ decode (fetchBytes (s.dropKey.writeKey s.nextKey)) = .ok (.ldaAbs 0x1234, []) := ⟨rfl, rfl⟩

/-- Both cases of the argument: a key and none. -/
theorem witness_KeyIsWrittenBeforeTheFetch :
    ∃ s t : State, (s.fault = none ∧ s.keys = some 0x41 :: []) ∧ (t.fault = none ∧ t.keys = none :: [some 0x00]) :=
  ⟨{ State.reset with keys := [some 0x41] }, { State.reset with keys := [none, some 0x00] }, ⟨rfl, rfl⟩, ⟨rfl, rfl⟩⟩

theorem witness_FaultedCoreChangesNothing : ∃ s : State, s.fault = some ⟨0x02, 0x8002⟩ :=
  ⟨{ State.reset with fault := some ⟨0x02, 0x8002⟩ }, rfl⟩

theorem witness_UndefinedFetchIsPrecise :
    (place 0xFFFF [0xFF]).fault = none ∧
    (opEntry (Memory.read ((place 0xFFFF [0xFF]).writeKey none).mem (place 0xFFFF [0xFF]).pc)).kind = .undefined := by decide

/-- The three cases of the result: Ok, DecodeError raised, DecodeError latched. -/
theorem witness_StepResultIsOkOrDecodeError :
    stepResult (stepKey none (place 0x8000 [0xEA])) = some .ok ∧
    stepResult (stepKey none (place 0x8000 [0x02])) = some (.decodeError ⟨0x02, 0x8000⟩) ∧
    stepResult (stepKey none { State.reset with fault := some ⟨0x02, 0x8002⟩ }) = some (.decodeError ⟨0x02, 0x8002⟩) := by
  decide

theorem witness_EveryInstructionCompletes : State.reset.fault = none := rfl

/-- A step that raises DecodeError from a state with the invariant, and one that emits an event. -/
theorem witness_InvariantIsKept :
    (∃ s t : State, s.Inv ∧ step s = .next t ∧ t.fault = some ⟨0x02, 0x8000⟩) ∧
    ∃ s t : State, s.Inv ∧ step s = .next t ∧ t.diag = [⟨0x38, 0x8000⟩] :=
  ⟨⟨place 0x8000 [0x02], _, ⟨by decide, nofun, nofun⟩, rfl, rfl⟩, ⟨place 0x8000 [0x38], _, ⟨by decide, nofun, nofun⟩, rfl, rfl⟩⟩

/-- A step with I, D, V and U all set (SEI, whose 6502 name would write I). -/
theorem witness_InertFlagsNeverChange :
    Answers { place 0x8000 [0x78] with p := 0x6C } fun s => { s with pc := 0x8001, cyc := 2, diag := [⟨0x78, 0x8000⟩] } := by
  decide

/-- A BRK from P.B clear, and a step of a halted core. -/
theorem witness_BreakFlagIsSetByBrkOnly :
    (∃ t, exec .brk State.reset = .next t) ∧
    ∃ s t : State, step s = .next t ∧ s.halted = true :=
  ⟨⟨_, rfl⟩, ⟨{ place 0x8000 [0xEA] with p := 0x10 }, _, rfl, rfl⟩⟩

/-- Premises of both clauses: an instruction that is no ASL, and one outside the list (BRK). -/
theorem witness_FlagWriters :
    (∃ t, exec (.ldaImm 0x00) State.reset = .next t) ∧ mnemonicOf (.ldaImm 0x00) ≠ .asl ∧
    (∃ t, exec .brk State.reset = .next t) ∧
    mnemonicOf .brk ∉ [.lda, .and, .asl, .inx, .dex, .tax, .tay, .txa, .tya, .tsx] :=
  ⟨⟨_, rfl⟩, by decide, ⟨_, rfl⟩, by decide⟩

/-- One instruction under all four clauses: ASL of a memory cell. -/
theorem witness_RegisterWriters :
    (∃ t, exec (.aslAbs 0xFFFF) State.reset = .next t) ∧ mnemonicOf (.aslAbs 0xFFFF) ∉ [.lda, .and, .txa, .tya] ∧
    Instr.aslAbs 0xFFFF ≠ .aslAcc ∧ mnemonicOf (.aslAbs 0xFFFF) ∉ [.inx, .dex, .tax, .tsx] ∧
    mnemonicOf (.aslAbs 0xFFFF) ≠ .tay ∧ mnemonicOf (.aslAbs 0xFFFF) ∉ [.txs, .brk] :=
  ⟨⟨_, rfl⟩, by decide, by decide, by decide, by decide, by decide⟩

/-- An ASL that stores at the wrapped address 0x0000, a BRK, and a store of the table that stores nothing. -/
theorem witness_MemoryFrame :
    (∃ t, exec (.aslAbsX 0xFFFF) { State.reset with x := 1 } = .next t) ∧
    storesAt (.aslAbsX 0xFFFF) { State.reset with x := 1 } = some (.address 0x0000) ∧ (0xFFFF : Word) ≠ 0x0000 ∧
    (∃ t, exec .brk State.reset = .next t) ∧
    (∃ t, exec (.staZp 0xFF) State.reset = .next t) ∧ storesAt (.staZp 0xFF) State.reset = none ∧
    Instr.staZp 0xFF ≠ .brk :=
  ⟨⟨_, rfl⟩, by decide, by decide, ⟨_, rfl⟩, ⟨_, rfl⟩, by decide, by decide⟩

/-- An undefined byte, and a branch that is not taken. -/
theorem witness_ProgramCounterAdvancesBySize :
    ((Instr.undefined 0x02).wellFormed = true ∧ (∃ t, exec (.undefined 0x02) State.reset = .next t) ∧
      (Instr.undefined 0x02).entry.kind = .undefined) ∧
    (Instr.bmi 0x80).wellFormed = true ∧ (∃ t, exec (.bmi 0x80) State.reset = .next t) ∧ Instr.bmi 0x80 ≠ .brk ∧
    (Instr.bmi 0x80).entry.kind ≠ .undefined ∧
    ∀ flag want off, branchOf (.bmi 0x80) = some (flag, want, off) → getFlag flag State.reset.p ≠ want :=
  ⟨⟨by decide, ⟨_, rfl⟩, by decide⟩, by decide, ⟨_, rfl⟩, by decide, by decide, by rintro _ _ _ ⟨⟩; decide⟩

/-- A page cross, and a taken branch to another page. -/
theorem witness_CyclesAreCharged :
    (Instr.ldaAbsX 0x1201).wellFormed = true ∧ (∃ t, exec (.ldaAbsX 0x1201) { State.reset with x := 0xFF } = .next t) ∧
    costOf (.ldaAbsX 0x1201) { State.reset with x := 0xFF } = 5 ∧
    (∃ t, exec (.bpl 0x80) State.reset = .next t) ∧ costOf (.bpl 0x80) State.reset = 4 ∧
    (Instr.bpl 0x80).entry.kind ≠ .undefined :=
  ⟨by decide, ⟨_, rfl⟩, by decide, ⟨_, rfl⟩, by decide, by decide⟩

theorem witness_CyclesAndEventsInfluenceNothing : ∃ t, step (place 0x8000 [0x4C, 0x00, 0x90]) = .next t := ⟨_, rfl⟩

/-- An event, and none. -/
theorem witness_EventsComeFromUnimplementedOpcodes :
    (Instr.sec.wellFormed = true ∧ ∃ t, exec .sec State.reset = .next t) ∧
    Instr.nop.wellFormed = true ∧ ∃ t, exec .nop State.reset = .next t :=
  ⟨⟨rfl, _, rfl⟩, rfl, _, rfl⟩

/-- An undefined byte, and an instruction run on a state whose latch is set. -/
theorem witness_LatchAndInputsFrame :
    ((Instr.undefined 0xFF).wellFormed = true ∧ ∃ t, exec (.undefined 0xFF) State.reset = .next t) ∧
    Instr.nop.wellFormed = true ∧ ∃ t, exec .nop { State.reset with fault := some ⟨0x02, 0x8002⟩ } = .next t :=
  ⟨⟨by decide, _, rfl⟩, rfl, _, rfl⟩

/-- The last image that fits and the first that does not. -/
theorem witness_LoadCopiesThenPointsTheVector :
    (0xFFFE : Word).toNat + [(0x01 : Byte), 0x02].length ≤ 65536 ∧
    ¬ (0xFFFE : Word).toNat + [(0x01 : Byte), 0x02, 0x03].length ≤ 65536 := by decide

/-- The last byte of the framebuffer. -/
theorem witness_SetPCAndFramebuffer :
    1023 < 1024 ∧ (hostFramebuffer State.reset).length = 1024 := ⟨by decide, by simp [hostFramebuffer]⟩

/-- The five clauses: halted; faulted only; faulted and halted too; a step that answers Ok; a step that raises DecodeError. -/
theorem witness_RunTestsBreakBeforeEachStep :
    (({ State.reset with p := 0xFF } : State).halted = true ∧ ({ State.reset with p := 0xFF } : State).fault = none) ∧
    (({ State.reset with fault := some ⟨0x02, 0x8000⟩ } : State).halted = false ∧
      ({ State.reset with fault := some ⟨0x02, 0x8000⟩ } : State).fault = some ⟨0x02, 0x8000⟩) ∧
    (({ State.reset with p := 0x10, fault := some ⟨0x02, 0x8000⟩ } : State).halted = true ∧
      ({ State.reset with p := 0x10, fault := some ⟨0x02, 0x8000⟩ } : State).fault = some ⟨0x02, 0x8000⟩) ∧
    (∃ t, (place 0x8000 [0xEA]).halted = false ∧ stepKey none (place 0x8000 [0xEA]) = .next t ∧ t.fault = none) ∧
    ∃ t, (place 0x8000 [0x02]).halted = false ∧ stepKey none (place 0x8000 [0x02]) = .next t ∧
      t.fault = some ⟨0x02, 0x8000⟩ :=
  ⟨⟨by decide, rfl⟩, ⟨by decide, rfl⟩, ⟨by decide, rfl⟩, ⟨_, by decide, rfl, rfl⟩, ⟨_, by decide, rfl, rfl⟩⟩

theorem witness_BrkEndsRun :
    (place 0x8003 [0x00]).halted = false ∧ (place 0x8003 [0x00]).fault = none ∧
    Memory.read (place 0x8003 [0x00]).mem (place 0x8003 [0x00]).pc = 0x00 := by decide

end Sys2Proof.Machine.Test
end

section
/-! SUPPORT. What a handler makes of the state, said once for all the implemented and unimplemented instructions, and
what follows of an instruction's answer: the status byte after it, and the step it is run by. -/

namespace Sys2Proof.Machine

/-- What the instruction `i` standing at `opaddr` does to the state `s` in which PC has moved past its opcode byte
(40_execution R71, R72): the event of an unimplemented opcode, a result with its Z and N put into A, X or Y, ASL's shift
of one location, TXS, a conditional branch, the trap of BRK, or nothing. The byte of a result and the page charge stay
unnamed. -/
inductive HandlerWork (i : Instr) (opaddr : Word) (s : State) : Effect → Prop where
  | event (hk : i.entry.kind = .unimplemented) : HandlerWork i opaddr s ⟨s.emit ⟨i.opcode, opaddr⟩, false, 0⟩
  | resultToA (r : Byte) (extra : Nat) (hm : mnemonicOf i ∈ [.lda, .and, .txa, .tya]) :
      HandlerWork i opaddr s ⟨toA r s, false, extra⟩
  | resultToX (r : Byte) (hm : mnemonicOf i ∈ [.inx, .dex, .tax, .tsx]) : HandlerWork i opaddr s ⟨toX r s, false, 0⟩
  | resultToY (r : Byte) (hm : mnemonicOf i = .tay) : HandlerWork i opaddr s ⟨toY r s, false, 0⟩
  | shiftCell (a : Word) (hm : mnemonicOf i = .asl) (hs : storesAt i s = some (.address a)) :
      HandlerWork i opaddr s ⟨aslWork (.address a) s, false, 0⟩
  | shiftA (hi : i = .aslAcc) : HandlerWork i opaddr s ⟨aslWork .accumulator s, false, 0⟩
  | xToSP (hi : i = .txs) : HandlerWork i opaddr s ⟨s.setSP (0x0100 + zext16 s.x), false, 0⟩
  | branch (flag : Flag) (want : Bool) (off : Byte) (hb : branchOf i = some (flag, want, off)) :
      HandlerWork i opaddr s (branchForm flag want off i.entry s)
  | trap (hi : i = .brk) : HandlerWork i opaddr s ⟨enterTrap opaddr Config.brkPushOffset s, true, 0⟩
  | idle (hi : i = .nop) : HandlerWork i opaddr s ⟨s, false, 0⟩

/-- The works of LDA and AND put their result into A. -/
theorem HandlerWork.of_lda_or_and {i : Instr} {work : Byte → State → State}
    (hw : work = ldaWork ∧ mnemonicOf i = .lda ∨ work = andWork ∧ mnemonicOf i = .and)
    (opaddr : Word) (v : Byte) (s : State) (extra : Nat) : HandlerWork i opaddr s ⟨work v s, false, extra⟩ := by
  obtain ⟨rfl, hm⟩ | ⟨rfl, hm⟩ := hw
  · exact .resultToA v extra (by simp [hm])
  · exact .resultToA (s.a &&& v) extra (by simp [hm])

/-- An instruction's answer: DecodeError for the undefined instruction, and otherwise the end of the step in which its
handler did its work. -/
theorem exec_next_cases {i : Instr} {s t : State} (h : exec i s = .next t) :
    (∃ op, i = .undefined op ∧ t = s.setFault (some ⟨op, s.pc⟩)) ∨
    (i.entry.kind ≠ .undefined ∧ ∃ r, HandlerWork i s.pc (s.setPC (s.pc + 1)) r ∧ t = finishStep i.entry r) := by
  obtain ⟨hk, hu⟩ | ⟨hk, he, -⟩ | ⟨op, rfl⟩ := exec_cases i
  · refine .inr ⟨by simp [hk], ?_⟩
    obtain ⟨place, work, he, hw⟩ | ⟨v, work, he, hw⟩ | ⟨place, he, hm, hp⟩ | hi |
        ⟨flag, want, off, he, hb, -, -⟩ | rfl :=
      exec_implemented_cases hu hk
    · rw [he] at h
      exact ⟨_, .of_lda_or_and hw _ _ _ _, runHandler_next h⟩
    · rw [he] at h
      exact ⟨_, .of_lda_or_and hw _ _ _ _, runHandler_next h⟩
    · rw [he] at h
      obtain ⟨hs, -, a, ha⟩ := hp (s.setPC (s.pc + 1))
      refine ⟨_, .shiftCell a hm (hs.trans (congrArg some ha)), ?_⟩
      rw [← ha]
      exact runHandler_next h
    · obtain rfl | rfl | rfl | rfl | rfl | rfl | rfl | rfl | rfl | rfl := hi
      · exact ⟨_, .shiftA rfl, runHandler_next h⟩
      · exact ⟨_, .resultToX _ (by simp [mnemonicOf, Instr.entry]), runHandler_next h⟩
      · exact ⟨_, .resultToX _ (by simp [mnemonicOf, Instr.entry]), runHandler_next h⟩
      · exact ⟨_, .resultToX _ (by simp [mnemonicOf, Instr.entry]), runHandler_next h⟩
      · exact ⟨_, .resultToY _ (by simp [mnemonicOf, Instr.entry]), runHandler_next h⟩
      · exact ⟨_, .resultToA _ _ (by simp [mnemonicOf, Instr.entry]), runHandler_next h⟩
      · exact ⟨_, .resultToA _ _ (by simp [mnemonicOf, Instr.entry]), runHandler_next h⟩
      · exact ⟨_, .resultToX _ (by simp [mnemonicOf, Instr.entry]), runHandler_next h⟩
      · exact ⟨_, .xToSP rfl, runHandler_next h⟩
      · exact ⟨_, .idle rfl, runHandler_next h⟩
    · rw [he] at h
      exact ⟨_, .branch flag want off hb, runHandler_next h⟩
    · exact ⟨_, .trap rfl, runHandler_next h⟩
  · rw [he] at h
    exact .inr ⟨by simp [hk], _, .event hk, (Host.Outcome.next.inj h).symm⟩
  · exact .inl ⟨op, rfl, raiseDecodeError_next h⟩

section
variable (flag : Flag) (want : Bool) (off : Byte) (e : OpEntry) (s : State)

/-- A branch, taken or not, at most writes PC. -/
theorem branchForm_state : ∃ v, (branchForm flag want off e s).state = s.setPC v := by
  obtain ⟨-, h⟩ | ⟨-, h⟩ := branchForm_cases flag want off e s
  · exact ⟨_, by rw [h, (takeBranch_eq off s).1]⟩
  · exact ⟨s.pc, by rw [h]; rfl⟩

@[simp] theorem branchForm_a : (branchForm flag want off e s).state.a = s.a := by
  obtain ⟨v, h⟩ := branchForm_state flag want off e s
  rw [h, State.setPC_a]

@[simp] theorem branchForm_x : (branchForm flag want off e s).state.x = s.x := by
  obtain ⟨v, h⟩ := branchForm_state flag want off e s
  rw [h, State.setPC_x]

@[simp] theorem branchForm_y : (branchForm flag want off e s).state.y = s.y := by
  obtain ⟨v, h⟩ := branchForm_state flag want off e s
  rw [h, State.setPC_y]

@[simp] theorem branchForm_p : (branchForm flag want off e s).state.p = s.p := by
  obtain ⟨v, h⟩ := branchForm_state flag want off e s
  rw [h, State.setPC_p]

@[simp] theorem branchForm_sp : (branchForm flag want off e s).state.sp = s.sp := by
  obtain ⟨v, h⟩ := branchForm_state flag want off e s
  rw [h, State.setPC_sp]

@[simp] theorem branchForm_fault : (branchForm flag want off e s).state.fault = s.fault := by
  obtain ⟨v, h⟩ := branchForm_state flag want off e s
  rw [h, State.setPC_fault]

@[simp] theorem branchForm_keys : (branchForm flag want off e s).state.keys = s.keys := by
  obtain ⟨v, h⟩ := branchForm_state flag want off e s
  rw [h, State.setPC_keys]

end

/-- The status byte after ASL: C is bit 7 of the value, Z and N those of the shifted value (42_load_logic_shift R99). -/
@[simp] theorem aslWork_p (l : Location) (s : State) :
    (aslWork l s).p = updateZN (shiftLeft (load l s)) (setFlag .c (load l s).msb s.p) := by
  simp [aslWork]

/-- A conditional branch is not BRK. -/
theorem ne_brk_of_branchOf {i : Instr} {b : Flag × Bool × Byte} (h : branchOf i = some b) : i ≠ .brk := by
  rintro rfl
  exact nomatch h

@[simp] theorem mnemonicOf_brk : mnemonicOf .brk = .brk := by simp [mnemonicOf, Instr.entry]
@[simp] theorem mnemonicOf_aslAcc : mnemonicOf .aslAcc = .asl := by simp [mnemonicOf, Instr.entry]
@[simp] theorem mnemonicOf_txs : mnemonicOf .txs = .txs := by simp [mnemonicOf, Instr.entry]

/-- The status byte after an instruction (10_state R21 to R24): as it was, or with Z and N of a result, or after ASL with
C too, or after BRK with B set. -/
theorem exec_p_cases {i : Instr} {s t : State} (h : exec i s = .next t) :
    (i ≠ .brk ∧ t.p = s.p) ∨
    (mnemonicOf i ∈ [.lda, .and, .inx, .dex, .tax, .tay, .txa, .tya, .tsx] ∧ ∃ r, t.p = updateZN r s.p) ∨
    (mnemonicOf i = .asl ∧ ∃ carry r, t.p = updateZN r (setFlag .c carry s.p)) ∨
    (i = .brk ∧ t.p = setFlag .b true s.p) := by
  obtain ⟨op, rfl, rfl⟩ | ⟨-, r, hw, rfl⟩ := exec_next_cases h
  · exact .inl ⟨nofun, rfl⟩
  cases hw with
  | event hk => exact .inl ⟨by rintro rfl; simp [Instr.entry] at hk, by simp⟩
  | resultToA r extra hm => exact .inr (.inl ⟨List.subset_def.mp (by decide) hm, r, by simp [toA]⟩)
  | resultToX r hm => exact .inr (.inl ⟨List.subset_def.mp (by decide) hm, r, by simp [toX]⟩)
  | resultToY r hm => exact .inr (.inl ⟨by simp [hm], r, by simp [toY]⟩)
  | shiftCell a hm hs => exact .inr (.inr (.inl ⟨hm, _, _, (finishStep_p _ _).trans (aslWork_p _ _)⟩))
  | shiftA hi => exact .inr (.inr (.inl ⟨by simp [hi], _, _, (finishStep_p _ _).trans (aslWork_p _ _)⟩))
  | xToSP hi => exact .inl ⟨by simp [hi], by simp⟩
  | branch flag want off hb => exact .inl ⟨ne_brk_of_branchOf hb, by simp⟩
  | trap hi => exact .inr (.inr (.inr ⟨hi, by simp⟩))
  | idle hi => exact .inl ⟨by simp [hi], by simp⟩

/-- No handler writes the coming keys or the latch (10_state R31). -/
theorem HandlerWork.keys_fault {i : Instr} {opaddr : Word} {s : State} {r : Effect} (hw : HandlerWork i opaddr s r) :
    r.state.keys = s.keys ∧ r.state.fault = s.fault := by
  cases hw <;> simp [toA, toX, toY, aslWork]

/-- B after an instruction (10_state R23). -/
theorem exec_getFlag_b {i : Instr} {s t : State} (h : exec i s = .next t) :
    getFlag .b t.p = (decide (i = .brk) || getFlag .b s.p) := by
  obtain ⟨hi, ht⟩ | ⟨hm, r, ht⟩ | ⟨hm, c, r, ht⟩ | ⟨rfl, ht⟩ := exec_p_cases h
  · simp [ht, hi]
  · have hi : i ≠ .brk := by rintro rfl; simp at hm
    simp [ht, hi, getFlag_updateZN]
  · have hi : i ≠ .brk := by rintro rfl; simp at hm
    simp [ht, hi, getFlag_updateZN]
  · simp [ht]

/-- A step that answers a next state runs one instruction on a state with the status byte it began with. -/
theorem exists_exec_of_step {s t : State} (h : step s = .next t) : ∃ i s1, s1.p = s.p ∧ exec i s1 = .next t :=
  ⟨_, _, by simp [State.dropKey], (stepKey_next h).2⟩

end Sys2Proof.Machine
end

section
/-! PROOFS. The statements on the flags, the registers, Push and the latch (10_state). -/

namespace Sys2Proof.Machine

/-- Settles O9: the positions are `Flag.bit`, and the eight bits are written apart from each other. -/
theorem flagsAreTheBitsOfP : Obligations.FlagsAreTheBitsOfP := fun p =>
  ⟨rfl, rfl, rfl, rfl, rfl, rfl, rfl, rfl, fun f g on => getFlag_setFlag f g on p⟩

/-- Settles O10: a push is one byte write at SP, and its decrement is that of 16-bit words. -/
theorem pushWritesAtTheFullStackPointer : Obligations.PushWritesAtTheFullStackPointer := by
  intro s v
  refine ⟨fun b => by simp, ?_, rfl⟩
  rw [State.push_sp]
  bv_omega

/-- Settles O42: no form that the status byte takes after an instruction touches I, D, V or U. -/
theorem inertFlagsNeverChange : Obligations.InertFlagsNeverChange := by
  intro s t h
  obtain ⟨i, s1, hp, he⟩ := exists_exec_of_step h
  rw [← hp]
  obtain ⟨-, ht⟩ | ⟨-, r, ht⟩ | ⟨-, c, r, ht⟩ | ⟨-, ht⟩ := exec_p_cases he
  · simp [ht]
  · simp [ht, getFlag_updateZN]
  · simp [ht, getFlag_updateZN]
  · simp [ht]

/-- Settles O43: a halted core's B is set, and the instruction of its step keeps it. -/
theorem breakFlagIsSetByBrkOnly : Obligations.BreakFlagIsSetByBrkOnly := by
  refine ⟨fun i s t => exec_getFlag_b, fun s t h hb => ?_⟩
  obtain ⟨i, s1, hp, he⟩ := exists_exec_of_step h
  have hb1 : getFlag .b s1.p = true := hp ▸ hb
  simp [State.halted, exec_getFlag_b he, hb1]

/-- Settles O44: C is written only where ASL writes it, Z and N only where a result is put into a register or
shifted. -/
theorem flagWriters : Obligations.FlagWriters := by
  intro i s t h
  obtain ⟨-, ht⟩ | ⟨hm, r, ht⟩ | ⟨hm, c, r, ht⟩ | ⟨-, ht⟩ := exec_p_cases h
  · simp [ht]
  · exact ⟨fun _ => by simp [ht, getFlag_updateZN], fun hn => absurd (List.subset_def.mp (by decide) hm) hn⟩
  · exact ⟨fun hn => absurd hm hn, fun hn => by simp [hm] at hn⟩
  · simp [ht]

/-- Settles O45: each kind of handler work writes its own register at most, by the instructions it belongs to. -/
theorem registerWriters : Obligations.RegisterWriters := by
  intro i s t h
  obtain ⟨op, rfl, rfl⟩ | ⟨-, r, hw, rfl⟩ := exec_next_cases h
  · simp
  cases hw with
  | event => simp
  | resultToA r extra hm => exact ⟨fun hn => absurd hm hn, by simp [toA]⟩
  | resultToX r hm => exact ⟨by simp [toX], fun hn => absurd hm hn, by simp [toX]⟩
  | resultToY r hm => simp [toY, hm]
  | shiftCell => simp [aslWork]
  | shiftA hi => simp [aslWork, hi]
  | xToSP hi => simp [hi]
  | branch => simp
  | trap hi => simp [hi]
  | idle => simp

/-- Settles O51: every work of a handler leaves the latch and the coming keys; the undefined instruction latches. -/
theorem latchAndInputsFrame : Obligations.LatchAndInputsFrame := by
  intro i s t hwf h
  obtain ⟨op, rfl, rfl⟩ | ⟨hk, r, hw, rfl⟩ := exec_next_cases h
  · have hk : (opEntry op).kind = .undefined := by simpa [Instr.wellFormed] using hwf
    simp [Instr.entry, hk]
  · obtain ⟨hkeys, hfault⟩ := hw.keys_fault
    simp [hk, hkeys, hfault]

end Sys2Proof.Machine
end

section
/-! SUPPORT. MEM as a map, continued: the word write, and that the canonical form is determined by the bytes it reads. -/

namespace Sys2Proof.Machine

/-- What a read answers after a word write (20_memory R40). -/
@[simp] theorem Memory.read_writeWord (m : Memory) (addr w b : Word) :
    Memory.read (Memory.writeWord m addr w) b =
      if b = addr + 1 then hiByte w else if b = addr then loByte w else Memory.read m b := by
  simp [Memory.writeWord]

/-- A word read gives the word written: its two cells are different ones, at the top of memory too. -/
@[simp] theorem Memory.readWord_writeWord (m : Memory) (addr w : Word) :
    Memory.readWord (Memory.writeWord m addr w) addr = w := by
  simp [Memory.readWord]

theorem Memory.wfFrom_cons {l k : Nat} {v : Byte} {rest : Memory} :
    Memory.wfFrom l ((k, v) :: rest) = true ↔
      l ≤ k ∧ k < 65536 ∧ v ≠ Memory.unlisted ∧ Memory.wfFrom (k + 1) rest = true := by
  simp [Memory.wfFrom, and_assoc]

/-- The address of its first cell bounds a canonical memory from below. -/
theorem Memory.wfFrom_head {l k : Nat} {v : Byte} {rest : Memory} (h : Memory.wfFrom l ((k, v) :: rest) = true) :
    Memory.wfFrom k ((k, v) :: rest) = true :=
  Memory.wfFrom_cons.mpr ⟨le_refl k, (Memory.wfFrom_cons.mp h).2⟩

/-- Below the first address it may list, a canonical memory lists nothing. -/
theorem Memory.lookup_of_lt {m : Memory} {l a : Nat} (h : Memory.wfFrom l m = true) (ha : a < l) :
    Memory.lookup m a = Memory.unlisted := by
  induction m generalizing l with
  | nil => rfl
  | cons c rest ih =>
    obtain ⟨k, v⟩ := c
    obtain ⟨hl, -, -, hrest⟩ := Memory.wfFrom_cons.mp h
    rw [Memory.lookup, if_neg (by omega)]
    exact ih hrest (by omega)

/-- A canonical memory that begins above a listed cell reads differently at the address of that cell. -/
theorem Memory.lookup_ne_of_lt {n : Memory} {l k : Nat} {v : Byte} (rest : Memory) (hv : v ≠ Memory.unlisted)
    (hn : Memory.wfFrom l n = true) (hk : k < l) : Memory.lookup ((k, v) :: rest) k ≠ Memory.lookup n k := by
  rw [Memory.lookup_of_lt hn hk, Memory.lookup, if_pos rfl]
  exact hv

/-- Canonical memories that read the same byte at every 16-bit address are equal: their first cells have the same
address, for the lower one would be missing in the other memory, hence the same byte, and so on. -/
theorem Memory.eq_of_lookup_eq {m n : Memory} {l l' : Nat} (hm : Memory.wfFrom l m = true)
    (hn : Memory.wfFrom l' n = true) (h : ∀ a < 65536, Memory.lookup m a = Memory.lookup n a) : m = n := by
  induction m generalizing l l' n with
  | nil =>
    cases n with
    | nil => rfl
    | cons c' rest' =>
      obtain ⟨k', v'⟩ := c'
      obtain ⟨-, hk', hv', -⟩ := Memory.wfFrom_cons.mp hn
      exact absurd (h k' hk').symm (Memory.lookup_ne_of_lt (l := k' + 1) rest' hv' rfl (by omega))
  | cons c rest ih =>
    obtain ⟨k, v⟩ := c
    obtain ⟨-, hk, hv, hrest⟩ := Memory.wfFrom_cons.mp hm
    cases n with
    | nil => exact absurd (h k hk) (Memory.lookup_ne_of_lt (l := k + 1) rest hv rfl (by omega))
    | cons c' rest' =>
      obtain ⟨k', v'⟩ := c'
      obtain ⟨-, hk', hv', hrest'⟩ := Memory.wfFrom_cons.mp hn
      obtain hlt | rfl | hlt := Nat.lt_trichotomy k k'
      · exact absurd (h k hk) (Memory.lookup_ne_of_lt rest hv (Memory.wfFrom_head hn) hlt)
      · have hbyte : v = v' := by simpa [Memory.lookup] using h k hk
        have htail : ∀ a < 65536, Memory.lookup rest a = Memory.lookup rest' a := by
          intro a ha
          by_cases hak : k = a
          · rw [Memory.lookup_of_lt hrest (by omega), Memory.lookup_of_lt hrest' (by omega)]
          · simpa [Memory.lookup, hak] using h a ha
        rw [hbyte, ih hrest hrest' htail]
      · exact absurd (h k' hk').symm (Memory.lookup_ne_of_lt rest' hv' (Memory.wfFrom_head hm) hlt)

end Sys2Proof.Machine
end

section
/-! SUPPORT. Memory, the events and the invariant after an instruction (20_memory R43; 60_exceptions R157, R167). -/

namespace Sys2Proof.Machine

@[simp] theorem branchForm_mem (flag : Flag) (want : Bool) (off : Byte) (e : OpEntry) (s : State) :
    (branchForm flag want off e s).state.mem = s.mem := by
  obtain ⟨v, h⟩ := branchForm_state flag want off e s
  rw [h, State.setPC_mem]

@[simp] theorem branchForm_diag (flag : Flag) (want : Bool) (off : Byte) (e : OpEntry) (s : State) :
    (branchForm flag want off e s).state.diag = s.diag := by
  obtain ⟨v, h⟩ := branchForm_state flag want off e s
  rw [h, State.setPC_diag]

@[simp] theorem aslWork_address_mem (a : Word) (s : State) :
    (aslWork (.address a) s).mem = Memory.write s.mem a (shiftLeft (Memory.read s.mem a)) := by
  simp [aslWork]

/-- The cell an instruction stores to does not depend on PC: the operand bytes are the instruction's own. -/
@[simp] theorem storesAt_setPC (i : Instr) (s : State) (v : Word) : storesAt i (s.setPC v) = storesAt i s := by
  cases i <;> rfl

/-- BRK resolves no operand. -/
@[simp] theorem storesAt_brk (s : State) : storesAt .brk s = none := rfl

/-- Memory after an instruction (20_memory R43): as it was, or with the cell of an ASL memory form written, or with the
three bytes that BRK pushes. -/
theorem exec_mem_cases {i : Instr} {s t : State} (h : exec i s = .next t) :
    t.mem = s.mem ∨
    (∃ a v, storesAt i s = some (.address a) ∧ t.mem = Memory.write s.mem a v) ∨
    (i = .brk ∧ ∃ hi lo p,
      t.mem = Memory.write (Memory.write (Memory.write s.mem s.sp hi) (s.sp - 1) lo) (s.sp - 2) p) := by
  obtain ⟨op, rfl, rfl⟩ | ⟨-, r, hw, rfl⟩ := exec_next_cases h
  · exact .inl rfl
  cases hw with
  | event => exact .inl (by simp)
  | resultToA => exact .inl (by simp [toA])
  | resultToX => exact .inl (by simp [toX])
  | resultToY => exact .inl (by simp [toY])
  | shiftCell a hm hs => exact .inr (.inl ⟨a, _, by simpa using hs, (finishStep_mem _ _).trans (aslWork_address_mem a _)⟩)
  | shiftA => exact .inl (by simp [aslWork])
  | xToSP => exact .inl (by simp)
  | branch => exact .inl (by simp)
  | trap hi =>
    have hsp : s.sp - 1 - 1 = s.sp - 2 := by bv_omega
    exact .inr (.inr ⟨hi, _, _, _, by rw [finishStep_mem, enterTrap_mem, State.setPC_sp, hsp]; rfl⟩)
  | idle => exact .inl (by simp)

/-- Every instruction keeps the canonical form of memory. -/
theorem wf_exec {i : Instr} {s t : State} (hs : Memory.wf s.mem = true) (h : exec i s = .next t) :
    Memory.wf t.mem = true := by
  obtain ht | ⟨a, v, -, ht⟩ | ⟨-, hi, lo, p, ht⟩ := exec_mem_cases h
  · rw [ht]; exact hs
  · rw [ht]; exact Memory.wf_write hs a v
  · rw [ht]; exact Memory.wf_write (Memory.wf_write (Memory.wf_write hs _ _) _ _) _ _

/-- The events after an instruction (60_exceptions R167): those before it, and that of an unimplemented opcode. -/
theorem exec_diag_cases {i : Instr} {s t : State} (h : exec i s = .next t) :
    t.diag = s.diag ∨ (i.entry.kind = .unimplemented ∧ t.diag = ⟨i.opcode, s.pc⟩ :: s.diag) := by
  obtain ⟨op, rfl, rfl⟩ | ⟨-, r, hw, rfl⟩ := exec_next_cases h
  · exact .inl rfl
  cases hw with
  | event hk => exact .inr ⟨hk, by simp⟩
  | resultToA => exact .inl (by simp [toA])
  | resultToX => exact .inl (by simp [toX])
  | resultToY => exact .inl (by simp [toY])
  | shiftCell => exact .inl (by simp [aslWork])
  | shiftA => exact .inl (by simp [aslWork])
  | xToSP => exact .inl (by simp)
  | branch => exact .inl (by simp)
  | trap => exact .inl (by simp)
  | idle => exact .inl (by simp)

/-- Without a latched fault the invariant survives the use of the coming key and its write to memory. -/
theorem State.Inv.after_key {s : State} (hs : s.Inv) (hf : s.fault = none) (key : Option Byte) :
    (s.dropKey.writeKey key).Inv where
  memory := State.wf_writeKey (s := s.dropKey) hs.memory key
  latch := by simp [State.dropKey, hf]
  events := by simpa [State.dropKey] using hs.events

/-- The instruction standing at PC keeps the invariant of a core without a latched fault: the one that latches a fault
changes nothing else, so its byte still stands at PC. -/
theorem State.Inv.after_exec {i : Instr} {s t : State} (hs : s.Inv) (hf : s.fault = none) (hwf : i.wellFormed = true)
    (hop : i.opcode = Memory.read s.mem s.pc) (h : exec i s = .next t) : t.Inv where
  memory := wf_exec hs.memory h
  latch := by
    obtain ⟨op, rfl, rfl⟩ | ⟨-, r, hw, rfl⟩ := exec_next_cases h
    · have hk : (opEntry op).kind = .undefined := by simpa [Instr.wellFormed] using hwf
      rintro f ⟨⟩
      exact ⟨rfl, hop.symm, hk⟩
    · simp [hw.keys_fault.2, hf]
  events := by
    obtain ht | ⟨hk, ht⟩ := exec_diag_cases h
    · simpa [ht] using hs.events
    · simpa [ht] using ⟨hk, hs.events⟩

end Sys2Proof.Machine
end

section
/-! PROOFS. The statements on memory and the invariant (20_memory). -/

namespace Sys2Proof.Machine

/-- Settles O4: the read after a byte write, and a byte write is an update of MEM alone. -/
theorem byteWriteChangesOneCell : Obligations.ByteWriteChangesOneCell :=
  fun s addr v => ⟨fun b => Memory.read_write s.mem addr b v, rfl⟩

/-- Settles O5: the word made of two bytes as a number, the address of the high one being a 16-bit sum. -/
theorem wordReadIsLittleEndianAndWraps : Obligations.WordReadIsLittleEndianAndWraps := by
  intro m addr
  have haddr : addr + 1 = BitVec.ofNat 16 ((addr.toNat + 1) % 65536) :=
    word_eq_ofNat (by simp [BitVec.toNat_add])
  rw [Memory.readWord, toNat_wordOf, haddr]

/-- Settles O6: the reads after a word write, with its two bytes as numbers. -/
theorem wordWriteThenRead : Obligations.WordWriteThenRead := by
  intro m addr w b
  have hhi : hiByte w = BitVec.ofNat 8 (w.toNat / 256) := byte_eq_ofNat (by rw [toNat_hiByte]; omega)
  have hlo : loByte w = BitVec.ofNat 8 w.toNat := byte_eq_ofNat (toNat_loByte w)
  exact ⟨Memory.readWord_writeWord m addr w, by rw [Memory.read_writeWord, hhi, hlo]⟩

/-- Settles O7: every number below 65,536 is a 16-bit address. -/
theorem canonicalMemoriesWithEqualBytesAreEqual : Obligations.CanonicalMemoriesWithEqualBytesAreEqual := by
  intro m n hm hn h
  refine Memory.eq_of_lookup_eq hm hn fun a ha => ?_
  have ha' : (BitVec.ofNat 16 a).toNat = a := by simpa using Nat.mod_eq_of_lt ha
  simpa only [Memory.read, ha'] using h (BitVec.ofNat 16 a)

/-- Settles O41: the step ran the instruction whose opcode byte stands at PC, on a core without a latched fault. -/
theorem invariantIsKept : Obligations.InvariantIsKept := by
  intro s t hs h
  obtain ⟨hf, he⟩ := stepKey_next h
  exact (hs.after_key hf s.nextKey).after_exec (by simp [hf]) (wellFormed_fetch _) (opcode_fetch _) he

/-- Settles O46: each of the three forms that memory takes after an instruction leaves the cells it does not write. -/
theorem memoryFrame : Obligations.MemoryFrame := by
  intro i s t h
  obtain ht | ⟨a, v, hs, ht⟩ | ⟨rfl, hi, lo, p, ht⟩ := exec_mem_cases h
  · simp [ht]
  · refine ⟨fun a' ha' b hb => ?_, ?_, fun hn => ?_⟩
    · obtain rfl : a = a' := by simpa [hs] using ha'
      simp [ht, hb]
    · rintro rfl
      simp at hs
    · simp [hs] at hn
  · refine ⟨by simp, fun _ b h0 h1 h2 => ?_, fun _ hn => absurd rfl hn⟩
    rw [ht, Memory.read_write, Memory.read_write, Memory.read_write, if_neg h2, if_neg h1, if_neg h0]

end Sys2Proof.Machine
end

section
/-! SUPPORT. Decoder and encoder as inverses (30_encoding R53 to R55), said once as an equivalence: first for the opcode
byte with two bytes after it, then for a list of bytes. -/

namespace Sys2Proof

/-- A word has the bytes `lo` and `hi` exactly when it is made of them. -/
theorem loByte_hiByte_eq_iff {w : Word} {lo hi : Byte} : loByte w = lo ∧ hiByte w = hi ↔ w = wordOf hi lo := by
  constructor
  · rintro ⟨rfl, rfl⟩
    simp
  · rintro rfl
    simp

/-- The instructions of an undefined entry are the undefined ones. -/
theorem Instr.eq_undefined_of_kind {i : Instr} (hk : i.entry.kind = .undefined) : i = .undefined i.opcode := by
  obtain ⟨hk', -⟩ | ⟨hk', -⟩ | ⟨op, rfl⟩ := Machine.exec_cases i
  · simp [hk'] at hk
  · simp [hk'] at hk
  · rfl

/-- An undefined byte makes its undefined instruction, whatever follows it (30_encoding R60). -/
theorem decodeOp_of_undefined {op : Byte} (hk : (opEntry op).kind = .undefined) (b h : Byte) :
    decodeOp op b h = .undefined op := by
  have hi := Instr.eq_undefined_of_kind (i := decodeOp op b h) (by simpa [Instr.entry] using hk)
  simpa using hi

/-- A well-formed instruction carries the operand bytes that the size of its entry asks for. -/
theorem length_operandBytes {i : Instr} (hi : i.wellFormed = true) : i.operandBytes.length = operandCount i.opcode := by
  cases i with
  | undefined op => exact Laws.OperandSize.undefined op hi
  | _ => simp [operandCount]

/-- The decoder makes an instruction again from its opcode byte, if its operand bytes are the first ones it is given. -/
theorem decodeOp_opcode {i : Instr} {b h : Byte} (hi : i.wellFormed = true) (hb : i.operandBytes <+: [b, h]) :
    decodeOp i.opcode b h = i := by
  cases i with
  | undefined op => exact decodeOp_of_undefined (by simpa [Instr.wellFormed] using hi) b h
  | _ =>
    simp [loByte_hiByte_eq_iff] at hb
    subst_vars
    dsimp only [Instr.opcode]
    rfl

/-- The operand bytes of what the decoder makes are the first ones it was given. -/
theorem operandBytes_decodeOp_prefix (op b h : Byte) : (decodeOp op b h).operandBytes <+: [b, h] := by
  have hop := opcode_decodeOp op b h
  generalize hi : decodeOp op b h = i at hop ⊢
  cases i with
  | undefined _ => simp
  | _ =>
    dsimp only [Instr.opcode] at hop
    subst hop
    cases hi
    simp

theorem decodeOp_eq_iff {op b h : Byte} {i : Instr} :
    decodeOp op b h = i ↔ i.wellFormed = true ∧ i.opcode = op ∧ i.operandBytes <+: [b, h] := by
  constructor
  · rintro rfl
    exact ⟨wellFormed_decodeOp op b h, opcode_decodeOp op b h, operandBytes_decodeOp_prefix op b h⟩
  · rintro ⟨hi, rfl, hb⟩
    exact decodeOp_opcode hi hb

/-- At most two bytes, of a list that is long enough for them, begin it exactly when they begin its first two, zeros put
for the missing ones. -/
theorem prefix_getD_iff {ops l : List Byte} (h2 : ops.length ≤ 2) (hl : ops.length ≤ l.length) :
    ops <+: [l.getD 0 0, l.getD 1 0] ↔ ops <+: l := by
  match ops, l with
  | [], _ => simp
  | [x], y :: l => simp
  | [x, x'], y :: y' :: l => simp

/-- The zeros that `decode` puts for missing bytes are never read as operand bytes. -/
theorem operandBytes_prefix_getD_iff {i : Instr} {l : List Byte} (hi : i.wellFormed = true)
    (hl : operandCount i.opcode ≤ l.length) :
    i.operandBytes <+: [l.getD 0 0, l.getD 1 0] ↔ i.operandBytes <+: l := by
  have hlen := length_operandBytes hi
  exact prefix_getD_iff (hlen ▸ operandCount_le_two _) (hlen ▸ hl)

theorem decode_cons_of_lt {op : Byte} {rest : List Byte} (h : rest.length < operandCount op) :
    decode (op :: rest) = .error (.missingOperand op) := by
  rw [decode, if_pos h]

theorem decode_cons_of_le {op : Byte} {rest : List Byte} (h : operandCount op ≤ rest.length) :
    decode (op :: rest) = .ok (decodeOp op (rest.getD 0 0) (rest.getD 1 0), rest.drop (operandCount op)) := by
  rw [decode, if_neg (Nat.not_lt.mpr h)]

theorem exists_decode_cons_eq_error_iff {op : Byte} {rest : List Byte} :
    (∃ r, decode (op :: rest) = .error r) ↔ rest.length < operandCount op := by
  constructor
  · rintro ⟨r, hr⟩
    by_contra h
    simp [decode_cons_of_le (Nat.not_lt.mp h)] at hr
  · exact fun h => ⟨_, decode_cons_of_lt h⟩

theorem decode_cons_eq_ok_iff {op : Byte} {bytes rest : List Byte} {i : Instr} :
    decode (op :: bytes) = .ok (i, rest) ↔
      operandCount op ≤ bytes.length ∧ decodeOp op (bytes.getD 0 0) (bytes.getD 1 0) = i ∧
      bytes.drop (operandCount op) = rest := by
  by_cases h : operandCount op ≤ bytes.length
  · simp [decode_cons_of_le h, h]
  · simp [decode_cons_of_lt (Nat.not_le.mp h), h]

/-- The decoder reads exactly the encodings of the well-formed instructions, and leaves what stands after them. -/
theorem decode_eq_ok_iff {bytes rest : List Byte} {i : Instr} :
    decode bytes = .ok (i, rest) ↔ encode i ++ rest = bytes ∧ i.wellFormed = true := by
  cases bytes with
  | nil => simp [decode, encode]
  | cons op bytes =>
    rw [decode_cons_eq_ok_iff, decodeOp_eq_iff, encode, List.cons_append, List.cons.injEq]
    constructor
    · rintro ⟨hle, ⟨hi, rfl, hb⟩, rfl⟩
      have hpre : i.operandBytes <+: bytes := (operandBytes_prefix_getD_iff hi hle).mp hb
      rw [← length_operandBytes hi]
      exact ⟨⟨rfl, List.prefix_iff_eq_append.mp hpre⟩, hi⟩
    · rintro ⟨⟨rfl, rfl⟩, hi⟩
      have hle : operandCount i.opcode ≤ (i.operandBytes ++ rest).length := by simp [← length_operandBytes hi]
      have hb := (operandBytes_prefix_getD_iff hi hle).mpr (List.prefix_append _ _)
      exact ⟨hle, ⟨hi, rfl, hb⟩, List.drop_left' (length_operandBytes hi)⟩

end Sys2Proof
end

section
/-! SUPPORT. OPTABLE read from end to end is its rows one after the other (30_encoding R63). -/

namespace Sys2Proof

/-- The numbers below `m * n`, cut into `n` stretches of `m`. -/
theorem range_mul_eq_flatMap (m n : Nat) :
    List.range (m * n) = (List.range n).flatMap fun r => List.range' (m * r) m := by
  induction n with
  | zero => simp
  | succ n ih =>
    have happ : List.range (m * n) ++ List.range' (m * n) m = List.range (m * n + m) := by
      simpa [List.range_eq_range'] using List.range'_append_1 (s := 0) (m := m * n) (n := m)
    rw [List.range_succ, List.flatMap_append, ← ih, Nat.mul_succ, ← happ]
    simp

/-- Sixteen bytes of one high nibble have the entries of one row. -/
theorem map_opEntry_rows :
    ((List.range 16).map fun r => (List.range' (16 * r) 16).map fun n => opEntry (BitVec.ofNat 8 n)) = opRows := rfl

theorem map_opEntry_range : (List.range 256).map (fun n => opEntry (BitVec.ofNat 8 n)) = opRows.flatten := by
  rw [range_mul_eq_flatMap 16 16, List.map_flatMap, List.flatMap_def, map_opEntry_rows]

/-- A count over the opcode bytes is a count over the rows of OPTABLE. -/
theorem countP_opEntry_range (p : OpEntry → Bool) :
    ((List.range 256).countP fun n => p (opEntry (BitVec.ofNat 8 n))) = (opRows.map (List.countP p)).sum := by
  rw [← List.countP_flatten, ← map_opEntry_range, List.countP_map]
  rfl

end Sys2Proof
end

section
/-! PROOFS. The statements on the decoder, the encoder and the opcode table (30_encoding). -/

namespace Sys2Proof.Machine

/-- Settles O30: the encoding of a well-formed instruction is one of the words that the decoder reads. -/
theorem decodeOfEncodeIsTheInstruction : Obligations.DecodeOfEncodeIsTheInstruction :=
  fun _ _ hi => decode_eq_ok_iff.mpr ⟨rfl, hi⟩

/-- Settles O31: the decoder reads nothing but encodings of well-formed instructions. -/
theorem encodeOfDecodeIsTheBytes : Obligations.EncodeOfDecodeIsTheBytes :=
  fun _ _ _ h => decode_eq_ok_iff.mp h

/-- Settles O29: each word is computed through the decoder's table. -/
theorem specWordsDecode : Obligations.SpecWordsDecode :=
  ⟨rfl, rfl, rfl, rfl, rfl, rfl, rfl, rfl, rfl, rfl, rfl⟩

/-- Settles O32: the operand bytes asked for are the size less one, and an undefined instruction is its byte alone. -/
theorem decoderRejectsOnlyMissingBytes : Obligations.DecoderRejectsOnlyMissingBytes := by
  refine ⟨rfl, fun op rest => ?_⟩
  have hsize : rest.length < operandCount op ↔ rest.length + 1 < (opEntry op).size := Nat.lt_sub_iff_add_lt
  rw [← hsize]
  refine ⟨exists_decode_cons_eq_error_iff, decode_cons_of_lt, fun hk => ?_⟩
  exact decode_eq_ok_iff.mpr ⟨rfl, by simpa [Instr.wellFormed] using hk⟩

/-- Settles O33: the kinds are counted row by row. -/
theorem kindsAreCounted : Obligations.KindsAreCounted := by
  refine ⟨?_, ?_, ?_⟩
  · exact (countP_opEntry_range (·.kind == .implemented)).trans (by decide)
  · exact (countP_opEntry_range (·.kind == .unimplemented)).trans (by decide)
  · exact (countP_opEntry_range (·.kind == .undefined)).trans (by decide)

end Sys2Proof.Machine
end

section
/-! SUPPORT. The two ways a step begins as two equations, where Run stops and goes on, what an instruction does to PC,
and that the meaning of a fetched instruction is the step of the pseudocode (40_execution R65 to R76). -/

namespace Sys2Proof.Machine

/-- A step of a faulted core answers the latched DecodeError (40_execution R66). -/
theorem stepKey_of_fault {s : State} {f : OpAt} (hf : s.fault = some f) (key : Option Byte) :
    stepKey key s = .fault (.decodeError f.op f.addr) := by
  simp [stepKey, beginStep, hf]

/-- A step of a core without a latched fault writes the key and runs what stands at PC then (40_execution R67, R68). -/
theorem stepKey_of_fault_none {s : State} (hf : s.fault = none) (key : Option Byte) :
    stepKey key s = exec (fetch (s.writeKey key)) (s.writeKey key) := by
  simp [stepKey, beginStep, hf]

/-- What is read at INPUT_ADDR and elsewhere after the key write (40_execution R67). -/
theorem State.read_writeKey (key : Option Byte) (s : State) (b : Word) :
    Memory.read (s.writeKey key).mem b =
      if b = Config.inputAddr then key.getD (Memory.read s.mem b) else Memory.read s.mem b := by
  cases key <;> simp

/-- The key write changes memory alone. -/
theorem State.writeKey_eq (key : Option Byte) (s : State) :
    s.writeKey key = { s with mem := (s.writeKey key).mem } := by
  cases key <;> rfl

/-- The step takes its key from the coming ones and runs what stands at PC after the key write (log 5). -/
theorem step_of_fault_none {s : State} (hf : s.fault = none) :
    step s = exec (fetch (s.dropKey.writeKey s.nextKey)) (s.dropKey.writeKey s.nextKey) :=
  stepKey_of_fault_none (s := s.dropKey) hf s.nextKey

/-- A faulted core, halted or not, ends Run at once, with its latched DecodeError returned (60_exceptions R159). -/
theorem returnedError_hostRun {s : State} {f : OpAt} (hf : s.fault = some f) (n : Nat) :
    (hostRun n s).returnedError = some f := by
  have hends : runEndsHere s ≠ none := by simp [runEndsHere_eq_none, hf]
  obtain ⟨r, hr⟩ := Option.ne_none_iff_exists'.mp hends
  rw [hostRun_of_ends hr, returnedError_of_ends hr, hf]

/-- Run does not end before a step that answers a next state, on a core that is not halted. -/
theorem runEndsHere_eq_none_of_stepKey {key : Option Byte} {s t : State} (hs : s.halted = false)
    (ht : stepKey key s = .next t) : runEndsHere s = none :=
  (runEndsHere_eq_none s).mpr ⟨hs, (stepKey_next ht).1⟩

/-- A Run that goes on makes a step, and if that raises nothing it is a Run of the state reached (40_execution R76). -/
theorem hostRun_succ_of_fault_none {s t : State} (n : Nat) (hs : s.halted = false) (ht : stepKey none s = .next t)
    (hf : t.fault = none) : hostRun (n + 1) s = hostRun n t := by
  rw [hostRun, runEndsHere_eq_none_of_stepKey hs ht]
  simp only [ht, hf]

/-- A Run that goes on makes a step, and returns the DecodeError that the step raises (40_execution R76). -/
theorem hostRun_succ_of_fault {s t : State} {f : OpAt} (n : Nat) (hs : s.halted = false)
    (ht : stepKey none s = .next t) (hf : t.fault = some f) : hostRun (n + 1) s = .decodeError f t := by
  rw [hostRun, runEndsHere_eq_none_of_stepKey hs ht]
  simp only [ht, hf]

/-- No arm of `exec` faults or refuses (60_exceptions R156). -/
theorem exists_exec_eq_next (i : Instr) (s : State) : ∃ t, exec i s = .next t := by
  cases i <;> exact ⟨_, rfl⟩

/-- The entry of a defined opcode counts at least the opcode byte (30_encoding R55). -/
theorem opEntry_size_pos {op : Byte} : (opEntry op).kind ≠ .undefined → 0 < (opEntry op).size := by
  revert op
  decide

/-- The handlers other than the trap and a taken branch leave PC past the opcode byte, and say so (40_execution R73). -/
theorem HandlerWork.pc_of_not_taken {i : Instr} {opaddr : Word} {s : State} {r : Effect}
    (hw : HandlerWork i opaddr s r) (hi : i ≠ .brk)
    (hn : ∀ flag want off, branchOf i = some (flag, want, off) → getFlag flag s.p ≠ want) :
    r.moved = false ∧ r.state.pc = s.pc := by
  cases hw with
  | branch flag want off hb =>
    obtain ⟨ht, -⟩ | ⟨-, he⟩ := branchForm_cases flag want off i.entry s
    · exact absurd ht (hn flag want off hb)
    · simp [he]
  | trap hb => exact absurd hb hi
  | event | resultToA | resultToX | resultToY | shiftCell | shiftA | xToSP | idle => simp [toA, toX, toY, aslWork]

/-- A handler that did not write PC ends its step behind the instruction (40_execution R73). -/
theorem finishStep_pc_of_not_moved {e : OpEntry} {r : Effect} {opaddr : Word} (he : 0 < e.size) (hm : r.moved = false)
    (hpc : r.state.pc = opaddr + 1) : (finishStep e r).pc = opaddr + BitVec.ofNat 16 e.size := by
  rw [finishStep_pc, if_neg (by simp [hm]), hpc]
  bv_omega

/-- An implemented instruction whose operand bytes stand behind its opcode byte does what the pseudocode does, which
reads them there (40_execution R69, R71; log 13): with the bytes in memory put for the operand, the two are one
computation. -/
theorem exec_eq_executeAsWritten {i : Instr} {s : State} (hwf : i.wellFormed = true) (hk : i.entry.kind = .implemented)
    (hb : i.operandBytes <+: [Memory.read s.mem (s.pc + 1), Memory.read s.mem (s.pc + 1 + 1)]) :
    exec i s = .next (finishStep i.entry (executeAsWritten i.entry s.pc (s.setPC (s.pc + 1)))) := by
  cases i
  case aslAcc | inx | dex | tax | tay | txa | tya | tsx | txs | brk | nop => rfl
  case ldaImm z | ldaZp z | ldaZpX z | ldaIndX z | ldaIndY z | andImm z | andZp z | andZpX z | andIndX z | andIndY z |
      aslZp z | aslZpX z | bpl z | bmi z | bvc z | bvs z | bcc z | bcs z | bne z | beq z =>
    obtain rfl : z = Memory.read s.mem (s.pc + 1) := by simpa using hb
    dsimp only [Instr.entry, Instr.opcode]
    rfl
  case ldaAbs w | ldaAbsX w | ldaAbsY w | andAbs w | andAbsX w | andAbsY w | aslAbs w | aslAbsX w =>
    have hw : loByte w = Memory.read s.mem (s.pc + 1) ∧ hiByte w = Memory.read s.mem (s.pc + 1 + 1) := by
      simpa using hb
    obtain rfl := loByte_hiByte_eq_iff.mp hw
    dsimp only [Instr.entry, Instr.opcode]
    rfl
  case undefined op =>
    have hu : (opEntry op).kind = .undefined := by simpa [Instr.wellFormed] using hwf
    simp [Instr.entry, hu] at hk
  -- the recognized but unimplemented opcodes
  all_goals simp [Instr.entry] at hk

/-- The operand bytes of the fetched instruction stand behind its opcode byte. -/
theorem operandBytes_fetch_prefix (s : State) :
    (fetch s).operandBytes <+: [Memory.read s.mem (s.pc + 1), Memory.read s.mem (s.pc + 1 + 1)] :=
  operandBytes_decodeOp_prefix _ _ _

@[simp] theorem entry_fetch (s : State) : (fetch s).entry = opEntry (Memory.read s.mem s.pc) := by
  simp [Instr.entry]

end Sys2Proof.Machine
end

section
/-! PROOFS. The statements on the step and on Run (40_execution). -/

namespace Sys2Proof.Machine

/-- Settles O35: the fetched instruction is of one of the three kinds that the pseudocode tells apart. -/
theorem stepIsTheStepAsWritten : Obligations.StepIsTheStepAsWritten := by
  intro key s
  cases hf : s.fault with
  | some f => rw [stepKey_of_fault hf, stepAsWritten, hf]
  | none =>
    rw [stepKey_of_fault_none hf, stepAsWritten, hf]
    generalize s.writeKey key = s1
    dsimp only
    have hent := entry_fetch s1
    cases hk : (opEntry (Memory.read s1.mem s1.pc)).kind with
    | undefined =>
      have hi := Instr.eq_undefined_of_kind (hent ▸ hk)
      rw [hi, exec_undefined, opcode_fetch]
      rfl
    | unimplemented =>
      rw [exec_unimplemented (wellFormed_fetch s1) (hent ▸ hk), opcode_fetch]
      rfl
    | implemented =>
      rw [exec_eq_executeAsWritten (wellFormed_fetch s1) (hent ▸ hk) (operandBytes_fetch_prefix s1), hent]

/-- Settles O36: the step with the next coming key, and what the key write changes. -/
theorem keyIsWrittenBeforeTheFetch : Obligations.KeyIsWrittenBeforeTheFetch := by
  intro s key keys hf hkeys
  have hnext : s.nextKey = key := by simp [State.nextKey, hkeys]
  have hdrop : s.dropKey = { s with keys := keys } := by rw [State.dropKey, hkeys]; rfl
  refine ⟨?_, fun b => State.read_writeKey key s.dropKey b, ?_⟩
  · rw [step_of_fault_none hf, hnext]
  · rw [State.writeKey_eq, hdrop]

/-- Settles O39: the fault of the next state is that of the fetched instruction. -/
theorem stepResultIsOkOrDecodeError : Obligations.StepResultIsOkOrDecodeError := by
  intro key s
  cases hf : s.fault with
  | some f => rw [stepKey_of_fault hf]; rfl
  | none =>
    obtain ⟨t, ht⟩ := exists_exec_eq_next (fetch (s.writeKey key)) (s.writeKey key)
    obtain ⟨-, hfault⟩ := latchAndInputsFrame _ _ _ (wellFormed_fetch _) ht
    rw [stepKey_of_fault_none hf, ht, stepResult, hfault]
    by_cases hk : (opEntry (Memory.read (s.writeKey key).mem s.pc)).kind = .undefined
    · simp [hk]
    · simp [hk, hf]

/-- Settles O47: PC after a handler that did not write it, and after the undefined instruction. -/
theorem programCounterAdvancesBySize : Obligations.ProgramCounterAdvancesBySize := by
  intro i s t hwf h hi
  obtain ⟨op, rfl, rfl⟩ | ⟨hk, r, hw, rfl⟩ := exec_next_cases h
  · have hk : (opEntry op).kind = .undefined := by simpa [Instr.wellFormed] using hwf
    exact ⟨fun _ => rfl, fun hn => absurd hk hn⟩
  · refine ⟨fun hn => absurd hn hk, fun _ hn => ?_⟩
    obtain ⟨hm, hpc⟩ := hw.pc_of_not_taken hi hn
    exact finishStep_pc_of_not_moved (opEntry_size_pos hk) hm hpc

/-- Settles O8: the two flags that `updateZN` writes, as numbers. -/
theorem updateZNSetsZeroAndNegativeOnly : Obligations.UpdateZNSetsZeroAndNegativeOnly := by
  intro r p f
  rw [getFlag_updateZN]
  cases f with
  | z => simp [BitVec.toNat_eq]
  | n => simp [BitVec.msb_eq_decide]
  | _ => simp

/-- Settles O34: the decoder reads from the bytes at PC what the step fetches. -/
theorem stepRunsTheDecodedInstruction : Obligations.StepRunsTheDecodedInstruction := by
  intro s i rest hf s1 h
  obtain ⟨rfl, -⟩ : fetch s1 = i ∧ _ := by simpa [decode_fetchBytes] using h
  exact ⟨wellFormed_fetch s1, step_of_fault_none hf⟩

/-- Settles O37: the latch is tested first, and using a coming key does not clear it. -/
theorem faultedCoreChangesNothing : Obligations.FaultedCoreChangesNothing := by
  intro s f key hf
  have hstep : step s = .fault (.decodeError f.op f.addr) := stepKey_of_fault (s := s.dropKey) hf s.nextKey
  exact ⟨stepKey_of_fault hf key, hstep, by rw [hstep]; rfl⟩

/-- Settles O54: where Run ends at once, and its next round where it goes on. -/
theorem runTestsBreakBeforeEachStep : Obligations.RunTestsBreakBeforeEachStep := by
  intro n s t f
  refine ⟨fun hh => hostRun_of_ends (by simp [runEndsHere, hh]) n, fun hh hf => ?_, fun hf => ?_, ?_, ?_⟩
  · exact hostRun_of_ends (by simp [runEndsHere, hh, hf]) n
  · exact returnedError_hostRun hf n
  · exact hostRun_succ_of_fault_none n
  · exact hostRun_succ_of_fault n

end Sys2Proof.Machine
end

section
/-! SUPPORT. What the resolver reads at PC as numbers, and that the address of each mode fits 16 bits
(41_addressing R86 to R94). -/

namespace Sys2Proof.Machine

theorem read_eq_cell (w : Word) (s : State) : Memory.read s.mem w = cell s w.toNat := by
  rw [cell, BitVec.ofNat_toNat, BitVec.setWidth_eq]

/-- A word read as a number; `cell` takes the address of the high byte mod 2^16 (20_memory R39). -/
theorem toNat_readWord (w : Word) (s : State) :
    (Memory.readWord s.mem w).toNat = (cell s (w.toNat + 1)).toNat * 256 + (cell s w.toNat).toNat := by
  have hnext : w + 1 = BitVec.ofNat 16 (w.toNat + 1) := word_eq_ofNat (BitVec.toNat_add w 1)
  rw [Memory.readWord, toNat_wordOf, hnext, read_eq_cell w]
  rfl

theorem pointerNat_lt (s : State) (n : Nat) : pointerNat s n < 65536 := by
  have hhi := (cell s ((n + 1) % 256)).isLt
  have hlo := (cell s (n % 256)).isLt
  rw [pointerNat]
  omega

/-- A location given by a number of 16 bits is an operand whose address is that number. -/
theorem asOperand_address {r : Location × Bool} {n : Nat} {cross : Bool} (hr : r = (.address (BitVec.ofNat 16 n), cross))
    (hn : n < 65536) : ∃ a : Word, asOperand r = (some (.address a), cross) ∧ a.toNat = n :=
  ⟨BitVec.ofNat 16 n, by rw [hr, asOperand], by rw [BitVec.toNat_ofNat, Nat.mod_eq_of_lt hn]⟩

end Sys2Proof.Machine
end

section
/-! PROOFS. The statements on the resolver (41_addressing). -/

namespace Sys2Proof.Machine

/-- Settles O11: each mode is the function of its operand bytes that the resolver reads at PC, the two bytes of an
absolute mode being those of one word. -/
theorem memoryModesResolve : Obligations.MemoryModesResolve := by
  intro s
  have hword : (Memory.readWord s.mem s.pc).toNat =
      (Memory.read s.mem (s.pc + 1)).toNat * 256 + (Memory.read s.mem s.pc).toNat := toNat_wordOf _ _
  have hlo : loByte (Memory.readWord s.mem s.pc) = Memory.read s.mem s.pc := loByte_wordOf _ _
  have hmod (n : Nat) : n % 65536 < 65536 := Nat.mod_lt n (by decide)
  dsimp only
  rw [← hword]
  refine ⟨?_, ?_, ?_, ?_, ?_, ?_, ?_⟩
  · exact asOperand_address (atZeroPage_eq _ s) (by omega)
  · exact asOperand_address (atZeroPageX_eq _ s) (by rw [natZeroPageX]; omega)
  · exact asOperand_address (atAbsolute_eq _ s) (BitVec.isLt _)
  · exact asOperand_address (hlo ▸ atAbsoluteX_eq _ s) (hmod _)
  · exact asOperand_address (hlo ▸ atAbsoluteY_eq _ s) (hmod _)
  · exact asOperand_address (atIndirectX_eq _ s) (pointerNat_lt s _)
  · exact asOperand_address (atIndirectY_eq _ s) (hmod _)

/-- Settles O12: four modes compute nothing, ZeroPageY sums in page 0, and Indirect reads the word at the word at PC. -/
theorem otherModesResolve : Obligations.OtherModesResolve := by
  intro s
  refine ⟨rfl, rfl, rfl, rfl, ?_, ?_⟩
  · exact asOperand_address (atZeroPageY_eq _ s) (by rw [natZeroPageY]; omega)
  · refine ⟨Memory.readWord s.mem (Memory.readWord s.mem s.pc), rfl, ?_⟩
    rw [toNat_readWord, Memory.readWord, toNat_wordOf]

end Sys2Proof.Machine
end

section
/-! SUPPORT. A row of the opcode table as a statement on states: the end of a step whose handler leaves PC past the
opcode byte, and what LDA, AND and ASL make of it (40_execution R73, R74; 42_load_logic_shift R97 to R99). -/

namespace Sys2Proof.Machine

/-- A handler that did not write PC ends its step behind the instruction, with the base cost and its own charges
(40_execution R73, R74). -/
theorem finishStep_eq_of_not_moved {e : OpEntry} {r : Effect} {opaddr : Word} (he : 0 < e.size) (hm : r.moved = false)
    (hpc : r.state.pc = opaddr + 1) :
    finishStep e r =
      { r.state with pc := opaddr + BitVec.ofNat 16 e.size, cyc := r.state.cyc + e.cycles + r.extra } := by
  have hpc' := finishStep_pc_of_not_moved he hm hpc
  apply State.ext <;> simp [-finishStep_pc, hpc', Nat.add_assoc]

/-- A table entry with the tag page_crossed charges the carry of the index addition (41_addressing R95). -/
theorem pageCharge_crossNat {e : OpEntry} (he : e.modifier = .pageCrossed) (lo index : Nat) :
    pageCharge e (decide (crossNat lo index = 1)) = crossNat lo index := by
  rw [pageCharge_eq, crossNat]
  split <;> simp [he]

/-- AbsoluteX on a word given by its two bytes: the carry is that of the low one (41_addressing R90). -/
theorem atAbsoluteX_wordOf (hi lo : Byte) (s : State) : atAbsoluteX (wordOf hi lo) s =
    (.address (BitVec.ofNat 16 (natAbsoluteX (wordOf hi lo) s)), decide (crossNat lo.toNat s.x.toNat = 1)) := by
  rw [atAbsoluteX_eq, loByte_wordOf]

/-- AbsoluteY on a word given by its two bytes (41_addressing R91). -/
theorem atAbsoluteY_wordOf (hi lo : Byte) (s : State) : atAbsoluteY (wordOf hi lo) s =
    (.address (BitVec.ofNat 16 (natAbsoluteY (wordOf hi lo) s)), decide (crossNat lo.toNat s.y.toNat = 1)) := by
  rw [atAbsoluteY_eq, loByte_wordOf]

/-- The shift to the left doubles mod 256 (42_load_logic_shift R99). -/
theorem shiftLeft_eq_ofNat (v : Byte) : shiftLeft v = BitVec.ofNat 8 (v.toNat * 2) :=
  byte_eq_ofNat (by rw [shiftLeft, BitVec.toNat_shiftLeft, Nat.shiftLeft_eq])

/-- ASL on the accumulator (42_load_logic_shift R99). -/
theorem aslWork_accumulator (s : State) :
    aslWork .accumulator s =
      toA (BitVec.ofNat 8 (s.a.toNat * 2)) (s.setP (setFlag .c (decide (s.a.toNat ≥ 128)) s.p)) := by
  rw [aslWork, load_accumulator, shiftLeft_eq_ofNat, BitVec.msb_eq_decide]
  rfl

/-- ASL on the memory cell of a numeric address (42_load_logic_shift R99). -/
theorem aslWork_cell (n : Nat) (s : State) :
    aslWork (.address (BitVec.ofNat 16 n)) s =
      ((s.setP (setFlag .c (decide ((cell s n).toNat ≥ 128)) s.p)).writeByte (BitVec.ofNat 16 n)
        (BitVec.ofNat 8 ((cell s n).toNat * 2))).updateZN (BitVec.ofNat 8 ((cell s n).toNat * 2)) := by
  rw [aslWork, load_address, shiftLeft_eq_ofNat, BitVec.msb_eq_decide]
  rfl

section
variable {i : Instr} {bytes : List Byte} {op : Byte} {e : OpEntry} {handler : OpEntry → State → Effect}
  {place : State → Location × Bool} {work : Byte → State → State}
  {t : State → State} {r : State → Byte} {n lo index extra : State → Nat}

/-- An implemented instruction whose handler leaves `t s`, with PC past the opcode byte. -/
theorem row_of_handler (hd : decode bytes = .ok (i, [])) (he : exec i = runHandler op handler) (hent : opEntry op = e)
    (heff : ∀ s, handler e (s.setPC (s.pc + 1)) = ⟨t s, false, extra s⟩)
    (hpc : ∀ s, (t s).pc = s.pc + 1 := by exact fun _ => rfl) (hsize : 0 < e.size := by decide) :
    Row i bytes fun s =>
      { t s with pc := s.pc + BitVec.ofNat 16 e.size, cyc := (t s).cyc + e.cycles + extra s } :=
  ⟨hd, fun s => by rw [he, runHandler, hent, heff, finishStep_eq_of_not_moved hsize rfl (hpc s)]⟩

/-- An instruction that puts a result with its Z and N into A. -/
theorem row_of_resultToA (hd : decode bytes = .ok (i, [])) (he : exec i = runHandler op handler) (hent : opEntry op = e)
    (heff : ∀ s, handler e (s.setPC (s.pc + 1)) = ⟨toA (r s) (s.setPC (s.pc + 1)), false, extra s⟩)
    (hsize : 0 < e.size := by decide) :
    Row i bytes fun s =>
      { s with
        a := r s, p := updateZN (r s) s.p, pc := s.pc + BitVec.ofNat 16 e.size, cyc := s.cyc + e.cycles + extra s } :=
  row_of_handler hd he hent heff (hsize := hsize)

/-- LDA or AND on a cell that is resolved without a page crossing. -/
theorem row_of_read (hd : decode bytes = .ok (i, [])) (he : exec i = runHandler op (readForm place work))
    (hent : opEntry op = e)
    (hplace : ∀ s, place (s.setPC (s.pc + 1)) = (.address (BitVec.ofNat 16 (n s)), false))
    (hwork : ∀ s, work (cell s (n s)) (s.setPC (s.pc + 1)) = toA (r s) (s.setPC (s.pc + 1)))
    (hsize : 0 < e.size := by decide) :
    Row i bytes fun s =>
      { s with a := r s, p := updateZN (r s) s.p, pc := s.pc + BitVec.ofNat 16 e.size, cyc := s.cyc + e.cycles } :=
  row_of_resultToA (extra := fun _ => 0) hd he hent (fun s => by rw [readForm, hplace, ← hwork]; rfl) hsize

/-- LDA or AND on a cell that is resolved by an index addition whose carry is charged. -/
theorem row_of_chargedRead (hd : decode bytes = .ok (i, [])) (he : exec i = runHandler op (readForm place work))
    (hent : opEntry op = e) (hmod : e.modifier = .pageCrossed)
    (hplace : ∀ s, place (s.setPC (s.pc + 1)) =
      (.address (BitVec.ofNat 16 (n s)), decide (crossNat (lo s) (index s) = 1)))
    (hwork : ∀ s, work (cell s (n s)) (s.setPC (s.pc + 1)) = toA (r s) (s.setPC (s.pc + 1)))
    (hsize : 0 < e.size := by decide) :
    Row i bytes fun s =>
      { s with
        a := r s, p := updateZN (r s) s.p, pc := s.pc + BitVec.ofNat 16 e.size
        cyc := s.cyc + e.cycles + crossNat (lo s) (index s) } :=
  row_of_resultToA hd he hent (fun s => by rw [readForm, hplace, pageCharge_crossNat hmod, ← hwork]; rfl) hsize

/-- ASL on a resolved cell: no page charge, whether the index crossed or not. -/
theorem row_of_shiftedCell (hd : decode bytes = .ok (i, [])) (he : exec i = runHandler op (modifyForm place aslWork))
    (hent : opEntry op = e) (hplace : ∀ s, (place (s.setPC (s.pc + 1))).1 = .address (BitVec.ofNat 16 (n s)))
    (hsize : 0 < e.size := by decide) :
    Row i bytes fun s =>
      { s with
        mem := Memory.write s.mem (BitVec.ofNat 16 (n s)) (BitVec.ofNat 8 ((cell s (n s)).toNat * 2))
        p := updateZN (BitVec.ofNat 8 ((cell s (n s)).toNat * 2))
          (setFlag .c (decide ((cell s (n s)).toNat ≥ 128)) s.p)
        pc := s.pc + BitVec.ofNat 16 e.size, cyc := s.cyc + e.cycles } :=
  row_of_handler (extra := fun _ => 0) hd he hent (fun s => by rw [modifyForm, hplace, aslWork_cell]) (hsize := hsize)

end

end Sys2Proof.Machine
end

section
/-! PROOFS. The statements on LDA, AND and ASL (42_load_logic_shift). -/

namespace Sys2Proof.Machine

/-- Settles O13: seven modes read the cell their resolution names, three of them with the carry charged, and the
immediate mode takes its byte. -/
theorem ldaLoadsTheAccumulator : Obligations.LdaLoadsTheAccumulator := by
  intro b h
  refine ⟨?indirectX, ?zeroPage, ?immediate, ?absolute, ?indirectY, ?zeroPageX, ?absoluteY, ?absoluteX⟩
  case indirectX => exact row_of_read rfl rfl opEntry_A1 (fun _ => atIndirectX_eq b _) fun _ => rfl
  case zeroPage => exact row_of_read rfl rfl opEntry_A5 (fun _ => atZeroPage_eq b _) fun _ => rfl
  case immediate => exact row_of_resultToA (extra := fun _ => 0) rfl rfl opEntry_A9 fun _ => rfl
  case absolute => exact row_of_read rfl rfl opEntry_AD (fun _ => atAbsolute_eq _ _) fun _ => rfl
  case indirectY => exact row_of_chargedRead rfl rfl opEntry_B1 rfl (fun _ => atIndirectY_eq b _) fun _ => rfl
  case zeroPageX => exact row_of_read rfl rfl opEntry_B5 (fun _ => atZeroPageX_eq b _) fun _ => rfl
  case absoluteY => exact row_of_chargedRead rfl rfl opEntry_B9 rfl (fun _ => atAbsoluteY_wordOf h b _) fun _ => rfl
  case absoluteX => exact row_of_chargedRead rfl rfl opEntry_BD rfl (fun _ => atAbsoluteX_wordOf h b _) fun _ => rfl

/-- Settles O14: the modes of LDA, with the AND of A and the operand as the result. -/
theorem andMasksTheAccumulator : Obligations.AndMasksTheAccumulator := by
  intro b h
  refine ⟨?indirectX, ?zeroPage, ?immediate, ?absolute, ?indirectY, ?zeroPageX, ?absoluteY, ?absoluteX⟩
  case indirectX => exact row_of_read rfl rfl opEntry_21 (fun _ => atIndirectX_eq b _) fun _ => rfl
  case zeroPage => exact row_of_read rfl rfl opEntry_25 (fun _ => atZeroPage_eq b _) fun _ => rfl
  case immediate => exact row_of_resultToA (extra := fun _ => 0) rfl rfl opEntry_29 fun _ => rfl
  case absolute => exact row_of_read rfl rfl opEntry_2D (fun _ => atAbsolute_eq _ _) fun _ => rfl
  case indirectY => exact row_of_chargedRead rfl rfl opEntry_31 rfl (fun _ => atIndirectY_eq b _) fun _ => rfl
  case zeroPageX => exact row_of_read rfl rfl opEntry_35 (fun _ => atZeroPageX_eq b _) fun _ => rfl
  case absoluteY => exact row_of_chargedRead rfl rfl opEntry_39 rfl (fun _ => atAbsoluteY_wordOf h b _) fun _ => rfl
  case absoluteX => exact row_of_chargedRead rfl rfl opEntry_3D rfl (fun _ => atAbsoluteX_wordOf h b _) fun _ => rfl

/-- Settles O15: the four memory modes shift the cell their resolution names, whatever its cross bit, and one shifts
A. -/
theorem aslShiftsItsOperand : Obligations.AslShiftsItsOperand := by
  intro b h
  refine ⟨?zeroPage, ?accumulator, ?absolute, ?zeroPageX, ?absoluteX⟩
  case zeroPage => exact row_of_shiftedCell rfl rfl opEntry_06 fun _ => congrArg Prod.fst (atZeroPage_eq b _)
  case accumulator =>
    exact row_of_handler (handler := impliedForm (aslWork .accumulator)) rfl rfl opEntry_0A
      fun _ => congrArg (Effect.mk · false 0) (aslWork_accumulator _)
  case absolute => exact row_of_shiftedCell rfl rfl opEntry_0E fun _ => congrArg Prod.fst (atAbsolute_eq _ _)
  case zeroPageX => exact row_of_shiftedCell rfl rfl opEntry_16 fun _ => congrArg Prod.fst (atZeroPageX_eq b _)
  case absoluteX => exact row_of_shiftedCell rfl rfl opEntry_1E fun _ => congrArg Prod.fst (atAbsoluteX_eq _ _)

end Sys2Proof.Machine
end

section
/-! SUPPORT. The implied forms of 43_register_ops: the values they move as numbers, and the row of one whose result goes
to X. -/

namespace Sys2Proof.Machine

/-- The increment wraps mod 256 (43_register_ops R100). -/
theorem byte_add_one_eq_ofNat (v : Byte) : v + 1 = BitVec.ofNat 8 (v.toNat + 1) :=
  byte_eq_ofNat (BitVec.toNat_add v 1)

/-- The decrement is the addition of 255 mod 256 (43_register_ops R101). -/
theorem byte_sub_one_eq_ofNat (v : Byte) : v - 1 = BitVec.ofNat 8 (v.toNat + 255) :=
  byte_eq_ofNat (by rw [BitVec.toNat_sub, Nat.add_comm]; rfl)

/-- The low byte of SP is SP mod 256 (43_register_ops R106). -/
theorem loByte_eq_ofNat (w : Word) : loByte w = BitVec.ofNat 8 w.toNat :=
  byte_eq_ofNat (toNat_loByte w)

/-- The address of X in page 1 (43_register_ops R107). -/
theorem pageOne_add_zext16_eq_ofNat (v : Byte) : 0x0100 + zext16 v = BitVec.ofNat 16 (256 + v.toNat) :=
  word_eq_ofNat (by rw [BitVec.toNat_add, toNat_zext16]; rfl)

/-- An implied instruction that puts a result with its Z and N into X. -/
theorem row_of_resultToX {i : Instr} {bytes : List Byte} {op : Byte} {e : OpEntry} {source r : State → Byte}
    (hd : decode bytes = .ok (i, []))
    (he : exec i = runHandler op (impliedForm fun s => toX (source s) s)) (hent : opEntry op = e)
    (hsource : ∀ s, source (s.setPC (s.pc + 1)) = r s) (hsize : 0 < e.size := by decide) :
    Row i bytes fun s =>
      { s with x := r s, p := updateZN (r s) s.p, pc := s.pc + BitVec.ofNat 16 e.size, cyc := s.cyc + e.cycles } :=
  row_of_handler (t := fun s => toX (r s) (s.setPC (s.pc + 1))) (extra := fun _ => 0) hd he hent
    (fun s => by rw [impliedForm, hsource]) (hsize := hsize)

end Sys2Proof.Machine
end

section
/-! PROOFS. The statements on INX, DEX and the transfers (43_register_ops). -/

namespace Sys2Proof.Machine

/-- Settles O16: the word arithmetic of the two handlers, as numbers, put into X. -/
theorem inxAndDexStepX : Obligations.InxAndDexStepX := by
  refine ⟨?inx, ?dex⟩
  case inx => exact row_of_resultToX rfl rfl opEntry_E8 fun s => byte_add_one_eq_ofNat s.x
  case dex => exact row_of_resultToX rfl rfl opEntry_CA fun s => byte_sub_one_eq_ofNat s.x

/-- Settles O17: each transfer puts its source register, and TSX the low byte of SP, into its destination as a
result. -/
theorem transfersMoveAndUpdateFlags : Obligations.TransfersMoveAndUpdateFlags := by
  refine ⟨?tax, ?tay, ?txa, ?tya, ?tsx⟩
  case tax => exact row_of_resultToX rfl rfl opEntry_AA fun _ => rfl
  case tay =>
    exact row_of_handler (t := fun s => toY s.a (s.setPC (s.pc + 1))) (extra := fun _ => 0) rfl rfl opEntry_A8
      fun _ => rfl
  case txa => exact row_of_resultToA (extra := fun _ => 0) rfl rfl opEntry_8A fun _ => rfl
  case tya => exact row_of_resultToA (extra := fun _ => 0) rfl rfl opEntry_98 fun _ => rfl
  case tsx => exact row_of_resultToX rfl rfl opEntry_BA fun s => loByte_eq_ofNat s.sp

/-- Settles O18: SP is set to the address of X in page 1, and nothing is put through `updateZN`. -/
theorem txsSetsTheStackPointer : Obligations.TxsSetsTheStackPointer :=
  row_of_handler (extra := fun _ => 0) (t := fun s => (s.setPC (s.pc + 1)).setSP (BitVec.ofNat 16 (256 + s.x.toNat)))
    rfl rfl opEntry_9A fun s => by rw [impliedForm, pageOne_add_zext16_eq_ofNat, State.setPC_x]

end Sys2Proof.Machine
end

section
/-! SUPPORT. The handlers that write PC, branches and BRK: the end of their steps (40_execution R73, R74; 44_control R109,
R118). -/

namespace Sys2Proof.Machine

/-- A handler that wrote PC ends its step where it left PC, with the base cost and its own charges
(40_execution R73, R74). -/
theorem finishStep_of_moved (e : OpEntry) (t : State) (extra : Nat) :
    finishStep e ⟨t, true, extra⟩ = t.addCyc (e.cycles + extra) := rfl

/-- The page of an address is its number divided by 256 (44_control R109). -/
theorem hiByte_eq_hiByte_iff {v w : Word} : hiByte v = hiByte w ↔ v.toNat / 256 = w.toNat / 256 := by
  rw [← BitVec.toNat_inj, toNat_hiByte, toNat_hiByte]

/-- `TakeBranch` compares the pages that the rule compares (44_control R109). -/
theorem hiByte_targetOf_eq_iff (opaddr : Word) (off : Byte) :
    hiByte (targetOf opaddr off) = hiByte (opaddr + 2) ↔ pageChanges opaddr off = false := by
  simp [hiByte_eq_hiByte_iff, pageChanges]

/-- The branch at PC, taken: `TakeBranch` with PC past the opcode byte (44_control R109). -/
theorem takeBranch_setPC (off : Byte) (s : State) :
    takeBranch off (s.setPC (s.pc + 1)) =
      ⟨s.setPC (targetOf s.pc off), true, 1 + if pageChanges s.pc off then 1 else 0⟩ := by
  have hafter : s.pc + 1 + 1 = s.pc + 2 := by bv_omega
  rw [takeBranch, State.setPC_pc, hafter, branchTarget_eq]
  simp only [hiByte_targetOf_eq_iff]
  cases pageChanges s.pc off <;> rfl

/-- A branch of 2 bytes and 2 cycles, taken and not taken (44_control R108, R109). -/
theorem branchRow_of_branchForm {i : Instr} {op off : Byte} {flag : Flag} {want : Bool} {e : OpEntry}
    (hd : decode [op, off] = .ok (i, [])) (he : exec i = runHandler op (branchForm flag want off))
    (hent : opEntry op = e) (hsize : e.size = 2 := by rfl) (hcycles : e.cycles = 2 := by rfl) :
    BranchRow i op off flag want := by
  refine ⟨hd, fun s => ?_⟩
  rw [he, runHandler, hent, branchForm, State.setPC_p]
  split
  case isTrue =>
    have hcost (charge : Nat) : 2 + (1 + charge) = 3 + charge := by omega
    rw [takeBranch_setPC, finishStep_of_moved, hcycles, hcost, State.addCyc, ← Nat.add_assoc]
    rfl
  case isFalse =>
    rw [finishStep_eq_of_not_moved (opaddr := s.pc) (by omega) rfl rfl, hsize, hcycles]
    rfl

/-- The high byte of a word as a number. -/
theorem hiByte_eq_ofNat (w : Word) : hiByte w = BitVec.ofNat 8 (w.toNat / 256) :=
  byte_eq_ofNat (by rw [toNat_hiByte]; omega)

/-- The cells the trap's three pushes go to are three, whatever SP is: each keeps its own byte (44_control R118). -/
theorem read_enterTrap (opaddr offset : Word) (s : State) (b : Word) :
    Memory.read (enterTrap opaddr offset s).mem b =
      if b = s.sp then hiByte (opaddr + offset)
      else if b = s.sp - 1 then loByte (opaddr + offset)
      else if b = s.sp - 2 then setFlag .b true s.p
      else Memory.read s.mem b := by
  have hthird : s.sp - 1 - 1 = s.sp - 2 := by bv_omega
  have h01 : s.sp ≠ s.sp - 1 := by bv_omega
  have h02 : s.sp ≠ s.sp - 2 := by bv_omega
  have h12 : s.sp - 1 ≠ s.sp - 2 := by bv_omega
  rw [enterTrap_mem, hthird, Memory.read_write, Memory.read_write, Memory.read_write]
  by_cases h0 : b = s.sp
  · rw [h0, if_neg h02, if_neg h01, if_pos rfl, if_pos rfl]
  by_cases h1 : b = s.sp - 1
  · rw [h1, if_neg h12, if_pos rfl, if_neg h01.symm, if_pos rfl]
  · simp only [h0, h1, if_false]

/-- BRK answers the trap at its own address, at the base cost; the trap overwrites the PC that moved past the opcode
byte (44_control R118). -/
theorem exec_brk (s : State) : exec .brk s = .next ((enterTrap s.pc Config.brkPushOffset s).addCyc 7) := by
  have he : exec .brk s = runHandler 0x00#8 (brkForm s.pc) s := rfl
  rw [he, runHandler, opEntry_00]
  rfl

/-- The word at the BRK vector (20_memory R39, R45). -/
theorem readWord_brkVector (m : Memory) :
    Memory.readWord m Config.brkVector = wordOf (Memory.read m 0xFFFF) (Memory.read m 0xFFFE) := rfl

/-- The OPEN parameter has one of its two values (92 D8; log 4). -/
theorem brkPushOffset_cases : Config.brkPushOffset = 2 ∨ Config.brkPushOffset = 3 := by
  rw [Config.brkPushOffset]
  cases Config.brkPushesThree
  · exact .inl rfl
  · exact .inr rfl

end Sys2Proof.Machine
end

section
/-! PROOFS. The statements on the branches and BRK (44_control). -/

namespace Sys2Proof.Machine

/-- Settles O19: the eight opcodes run one handler, each with its own flag and the value it waits for. -/
theorem branchesGoToTheirTarget : Obligations.BranchesGoToTheirTarget := by
  intro off
  refine ⟨?bpl, ?bmi, ?bvc, ?bvs, ?bcc, ?bcs, ?bne, ?beq⟩
  case bpl => exact branchRow_of_branchForm rfl rfl opEntry_10
  case bmi => exact branchRow_of_branchForm rfl rfl opEntry_30
  case bvc => exact branchRow_of_branchForm rfl rfl opEntry_50
  case bvs => exact branchRow_of_branchForm rfl rfl opEntry_70
  case bcc => exact branchRow_of_branchForm rfl rfl opEntry_90
  case bcs => exact branchRow_of_branchForm rfl rfl opEntry_B0
  case bne => exact branchRow_of_branchForm rfl rfl opEntry_D0
  case beq => exact branchRow_of_branchForm rfl rfl opEntry_F0

/-- Settles O20: the state after BRK is that of the trap, whose three pushes go to three different cells. -/
theorem brkTakesTheTrap : Obligations.BrkTakesTheTrap := by
  refine ⟨rfl, brkPushOffset_cases, fun s => ⟨_, exec_brk s, ?p, ?mem, ?sp, ?pc, ?cyc, ?frame⟩⟩
  case p => rw [State.addCyc_p, enterTrap_p]
  case mem =>
    intro b
    rw [← hiByte_eq_ofNat, ← loByte_eq_ofNat, State.addCyc_mem, State.addCyc_p, enterTrap_p]
    rw [read_enterTrap]
  case sp =>
    rw [State.addCyc_sp, enterTrap_sp]
    bv_omega
  case pc => rw [State.addCyc_pc, enterTrap_pc, readWord_brkVector, State.addCyc_mem]
  case cyc => rw [State.addCyc_cyc, enterTrap_cyc]
  case frame => apply State.ext <;> simp

end Sys2Proof.Machine
end

section
/-! SUPPORT. The common no-op of the recognized but unimplemented opcodes, and its row of the opcode table
(45_nop_unimplemented R119). -/

namespace Sys2Proof.Machine

/-- The encoding of a well-formed instruction is as long as its entry says; an undefined entry says nothing
(30_encoding R55, R60). -/
theorem length_encode {i : Instr} (hwf : i.wellFormed = true) (hk : i.entry.kind ≠ .undefined) :
    (encode i).length = i.entry.size := by
  have hpos : 0 < i.entry.size := opEntry_size_pos hk
  rw [encode, List.length_cons, length_operandBytes hwf]
  exact Nat.sub_add_cancel hpos

/-- The common no-op: the event, the advance by the entry's size and the base cost, nothing else
(45_nop_unimplemented R119). -/
theorem exec_eq_noop {i : Instr} (hwf : i.wellFormed = true) (hk : i.entry.kind = .unimplemented) (s : State) :
    exec i s = .next
      { s with
        pc := s.pc + BitVec.ofNat 16 i.entry.size
        cyc := s.cyc + i.entry.cycles
        diag := ⟨i.opcode, s.pc⟩ :: s.diag } := by
  have hdef : i.entry.kind ≠ .undefined := by simp [hk]
  have hpos : 0 < i.entry.size := opEntry_size_pos hdef
  rw [exec_unimplemented hwf hk, runUnimplemented, ← Instr.entry, finishStep_eq_of_not_moved hpos rfl rfl]
  rfl

/-- An unimplemented entry is the row of a no-op: the event names the first of the decoded bytes, and PC moves past all
of them. -/
theorem NoopRow.of_entry {i : Instr} {bytes : List Byte} {m : Mnemonic} {mode : Mode} {size cycles : Nat}
    {modifier : Modifier} (hent : i.entry = ⟨m, mode, size, cycles, modifier, .unimplemented⟩)
    (hd : decode bytes = .ok (i, []) := by rfl) : NoopRow i bytes cycles := by
  have hk : i.entry.kind = .unimplemented := by rw [hent]
  have hcycles : i.entry.cycles = cycles := by rw [hent]
  obtain ⟨henc, hwf⟩ := decode_eq_ok_iff.mp hd
  rw [List.append_nil] at henc
  subst henc hcycles
  refine ⟨hd, fun s => ?_⟩
  rw [exec_eq_noop hwf hk, length_encode hwf (by simp [hk])]
  rfl

end Sys2Proof.Machine
end

section
/-! PROOFS. The statements on NOP and the recognized but unimplemented opcodes (45_nop_unimplemented). -/

namespace Sys2Proof.Machine

/-- Settles O27: no handler runs, so the end of the step moves PC and CYC by what the entry says. -/
theorem unimplementedOpcodesAreTheCommonNoop : Obligations.UnimplementedOpcodesAreTheCommonNoop :=
  fun _ s hwf hk => exec_eq_noop hwf hk s

/-- Settles O21: NOP has a handler, one that leaves the state as the end of the step finds it. -/
theorem nopOnlyAdvances : Obligations.NopOnlyAdvances :=
  row_of_handler (t := fun s => s.setPC (s.pc + 1)) (extra := fun _ => 0) rfl rfl opEntry_EA fun _ => rfl

/-- Settles O22: thirty-two unimplemented entries; the operand bytes count for the advance of PC alone. -/
theorem arithmeticAndCompareAreNoops : Obligations.ArithmeticAndCompareAreNoops :=
  fun _ _ => ⟨
    -- ADC
    .of_entry opEntry_61, .of_entry opEntry_65, .of_entry opEntry_69, .of_entry opEntry_6D,
    .of_entry opEntry_71, .of_entry opEntry_75, .of_entry opEntry_79, .of_entry opEntry_7D,
    -- BIT
    .of_entry opEntry_24, .of_entry opEntry_2C,
    -- CMP
    .of_entry opEntry_C1, .of_entry opEntry_C5, .of_entry opEntry_C9, .of_entry opEntry_CD,
    .of_entry opEntry_D1, .of_entry opEntry_D5, .of_entry opEntry_D9, .of_entry opEntry_DD,
    -- CPX
    .of_entry opEntry_E0, .of_entry opEntry_E4, .of_entry opEntry_EC,
    -- CPY
    .of_entry opEntry_C0, .of_entry opEntry_C4, .of_entry opEntry_CC,
    -- SBC
    .of_entry opEntry_E1, .of_entry opEntry_E5, .of_entry opEntry_E9, .of_entry opEntry_ED,
    .of_entry opEntry_F1, .of_entry opEntry_F5, .of_entry opEntry_F9, .of_entry opEntry_FD⟩

/-- Settles O23: thirty-nine unimplemented entries, the shifts of A and the read-modify-write modes among them. -/
theorem logicShiftAndMemoryStepAreNoops : Obligations.LogicShiftAndMemoryStepAreNoops :=
  fun _ _ => ⟨
    -- DEC
    .of_entry opEntry_C6, .of_entry opEntry_CE, .of_entry opEntry_D6, .of_entry opEntry_DE,
    -- EOR
    .of_entry opEntry_41, .of_entry opEntry_45, .of_entry opEntry_49, .of_entry opEntry_4D,
    .of_entry opEntry_51, .of_entry opEntry_55, .of_entry opEntry_59, .of_entry opEntry_5D,
    -- INC
    .of_entry opEntry_E6, .of_entry opEntry_EE, .of_entry opEntry_F6, .of_entry opEntry_FE,
    -- LSR
    .of_entry opEntry_46, .of_entry opEntry_4A, .of_entry opEntry_4E, .of_entry opEntry_56, .of_entry opEntry_5E,
    -- ORA
    .of_entry opEntry_01, .of_entry opEntry_05, .of_entry opEntry_09, .of_entry opEntry_0D,
    .of_entry opEntry_11, .of_entry opEntry_15, .of_entry opEntry_19, .of_entry opEntry_1D,
    -- ROL
    .of_entry opEntry_26, .of_entry opEntry_2A, .of_entry opEntry_2E, .of_entry opEntry_36, .of_entry opEntry_3E,
    -- ROR
    .of_entry opEntry_66, .of_entry opEntry_6A, .of_entry opEntry_6E, .of_entry opEntry_76, .of_entry opEntry_7E⟩

/-- Settles O24: nine unimplemented entries of one byte. -/
theorem flagAndYStepOpcodesAreNoops : Obligations.FlagAndYStepOpcodesAreNoops :=
  ⟨.of_entry opEntry_18, .of_entry opEntry_D8, .of_entry opEntry_58, .of_entry opEntry_B8, .of_entry opEntry_88,
    .of_entry opEntry_C8, .of_entry opEntry_38, .of_entry opEntry_F8, .of_entry opEntry_78⟩

/-- Settles O25: twenty-three unimplemented entries, the stores' at the table's fixed costs. -/
theorem loadsAndStoresOfTheTableAreNoops : Obligations.LoadsAndStoresOfTheTableAreNoops :=
  fun _ _ => ⟨
    -- LDX
    .of_entry opEntry_A2, .of_entry opEntry_A6, .of_entry opEntry_AE, .of_entry opEntry_B6, .of_entry opEntry_BE,
    -- LDY
    .of_entry opEntry_A0, .of_entry opEntry_A4, .of_entry opEntry_AC, .of_entry opEntry_B4, .of_entry opEntry_BC,
    -- STA
    .of_entry opEntry_81, .of_entry opEntry_85, .of_entry opEntry_8D, .of_entry opEntry_91,
    .of_entry opEntry_95, .of_entry opEntry_99, .of_entry opEntry_9D,
    -- STX
    .of_entry opEntry_86, .of_entry opEntry_8E, .of_entry opEntry_96,
    -- STY
    .of_entry opEntry_84, .of_entry opEntry_8C, .of_entry opEntry_94⟩

/-- Settles O26: nine unimplemented entries; PC moves by their size and nowhere else. -/
theorem jumpsReturnsAndStackOpcodesAreNoops : Obligations.JumpsReturnsAndStackOpcodesAreNoops :=
  fun _ _ =>
    ⟨.of_entry opEntry_4C, .of_entry opEntry_6C, .of_entry opEntry_20, .of_entry opEntry_48, .of_entry opEntry_08,
      .of_entry opEntry_68, .of_entry opEntry_28, .of_entry opEntry_40, .of_entry opEntry_60⟩

end Sys2Proof.Machine
end

section
/-! SUPPORT. What a read answers after an image has been copied to memory, and the step at an undefined byte and at a
BRK (60_exceptions R157, R163, R170). -/

namespace Sys2Proof.Machine

/-- Bytes written upwards from `a`, the address wrapping, stand at their distance from `a`; elsewhere memory is as it
was. No address is written twice. -/
theorem Memory.read_writeBytes {bytes : List Byte} (hlen : bytes.length ≤ 65536) (m : Memory) (a b : Word) :
    Memory.read (Memory.writeBytes m a bytes) b = bytes.getD (b - a).toNat (Memory.read m b) := by
  induction bytes generalizing m a with
  | nil => rfl
  | cons v rest ih =>
    rw [List.length_cons] at hlen
    rw [Memory.writeBytes, ih (by omega), Memory.read_write]
    by_cases hb : b = a
    · have hlast : (b - (a + 1)).toNat = 65535 := by bv_omega
      have hzero : (b - a).toNat = 0 := by bv_omega
      rw [if_pos hb, hlast, hzero, List.getD_eq_default _ _ (by omega), List.getD_cons_zero]
    · have hsucc : (b - a).toNat = (b - (a + 1)).toNat + 1 := by bv_omega
      rw [if_neg hb, hsucc, List.getD_cons_succ]

/-- An image that fits below 0x10000 does not wrap: its bytes stand from `a` on, in order (60_exceptions R170). -/
theorem Memory.read_writeBytes_of_fits {bytes : List Byte} {a : Word} (hfit : a.toNat + bytes.length ≤ 65536)
    (m : Memory) (b : Word) :
    Memory.read (Memory.writeBytes m a bytes) b =
      if a.toNat ≤ b.toNat ∧ b.toNat < a.toNat + bytes.length then bytes.getD (b.toNat - a.toNat) 0
      else Memory.read m b := by
  have hdist : (b - a).toNat = (65536 - a.toNat + b.toNat) % 65536 := BitVec.toNat_sub b a
  rw [Memory.read_writeBytes (by omega)]
  split
  case isTrue hin =>
    have hsub : (b - a).toNat = b.toNat - a.toNat := by omega
    have hlt : b.toNat - a.toNat < bytes.length := by omega
    rw [hsub, List.getD_eq_getElem _ _ hlt, List.getD_eq_getElem _ _ hlt]
  case isFalse hout => exact List.getD_eq_default _ _ (by omega)

/-- The reset vector's two cells, the low byte first (20_memory R40, R45). -/
theorem Memory.read_writeWord_resetVector (m : Memory) (w b : Word) :
    Memory.read (Memory.writeWord m Config.resetVector w) b =
      if b = 0xFFFD then BitVec.ofNat 8 (w.toNat / 256)
      else if b = 0xFFFC then BitVec.ofNat 8 w.toNat
      else Memory.read m b := by
  rw [Memory.read_writeWord, hiByte_eq_ofNat, loByte_eq_ofNat]
  rfl

/-- What stands at PC as an undefined byte is fetched as its undefined instruction. -/
theorem fetch_of_undefined {s : State} (hk : (opEntry (Memory.read s.mem s.pc)).kind = .undefined) :
    fetch s = .undefined (Memory.read s.mem s.pc) := decodeOp_of_undefined hk _ _

/-- The byte 0x00 at PC is fetched as BRK. -/
theorem fetch_of_read_eq_zero {s : State} (hop : Memory.read s.mem s.pc = 0x00) : fetch s = .brk := by
  rw [fetch, hop]
  rfl

end Sys2Proof.Machine
end

section
/-! PROOFS. The statements on DecodeError, the events and the host operations (60_exceptions). -/

namespace Sys2Proof.Machine

/-- Settles O38: the undefined instruction is fetched behind the key write, and its next state holds the latch. -/
theorem undefinedFetchIsPrecise : Obligations.UndefinedFetchIsPrecise := by
  intro key s hf hk f
  have hfetch := fetch_of_undefined (s := s.writeKey key) (by rwa [State.writeKey_pc])
  have hstep : stepKey key s = .next { s.writeKey key with fault := some f } := by
    rw [stepKey_of_fault_none hf, hfetch, exec_undefined, raiseDecodeError, State.writeKey_pc]
    rfl
  exact ⟨hstep, by rw [hstep]; rfl, fun b hb => by rw [State.read_writeKey, if_neg hb]⟩

/-- Settles O40: without a latched fault a step is the instruction it fetches, and no instruction stops. -/
theorem everyInstructionCompletes : Obligations.EveryInstructionCompletes := by
  refine ⟨exists_exec_eq_next, fun s hf => ?_⟩
  rw [step_of_fault_none hf]
  exact exists_exec_eq_next _ _

/-- Settles O50: an unimplemented entry is the common no-op, whose event is its only effect beside PC and CYC; the
other instructions leave the events. -/
theorem eventsComeFromUnimplementedOpcodes : Obligations.EventsComeFromUnimplementedOpcodes := by
  intro i s t hwf h
  by_cases hk : i.entry.kind = .unimplemented
  · obtain rfl := Host.Outcome.next.inj ((exec_eq_noop hwf hk s).symm.trans h)
    rw [if_pos hk]
  · obtain ht | ⟨hk', -⟩ := exec_diag_cases h
    · rw [if_neg hk, ht]
    · exact absurd hk' hk

/-- Settles O52: the vector is written over the copied image, so its two cells are told apart from the image's first. -/
theorem loadCopiesThenPointsTheVector : Obligations.LoadCopiesThenPointsTheVector := by
  intro bytes start s
  split
  case isTrue hfit =>
    refine ⟨_, if_pos hfit, ?lo, ?hi, fun b hlo hhi => ?other, rfl⟩
    case lo => rw [State.setMem_mem, Memory.read_writeWord_resetVector, if_neg (by decide), if_pos rfl]
    case hi => rw [State.setMem_mem, Memory.read_writeWord_resetVector, if_pos rfl]
    case other =>
      rw [State.setMem_mem, Memory.read_writeWord_resetVector, if_neg hhi, if_neg hlo]
      exact Memory.read_writeBytes_of_fits hfit s.mem b
  case isFalse hlong => exact if_neg hlong

/-- Settles O55: the step of the BRK leaves P.B set, which the next round of Run tests before it fetches. -/
theorem brkEndsRun : Obligations.BrkEndsRun := by
  intro n s hh hf hop
  have hexec := exec_brk s
  have hstep : stepKey none s = exec .brk s := by
    rw [stepKey_of_fault_none hf, State.writeKey_none, fetch_of_read_eq_zero hop]
  generalize ht : (enterTrap s.pc Config.brkPushOffset s).addCyc 7 = t at hexec
  have hhalted : t.halted = true := by simp [State.halted, exec_getFlag_b hexec]
  have hfault : t.fault = none := by simp [← ht, hf]
  refine ⟨t, hexec, hhalted, ?_, ?_⟩
  · rw [← ht, State.addCyc_pc, enterTrap_pc, State.addCyc_mem]
  · rw [hostRun_succ_of_fault_none n hh (hstep.trans hexec) hfault]
    exact hostRun_of_ends (by simp [runEndsHere, hhalted, hfault]) n

/-- Settles O28: the encoding of the undefined instruction is its byte alone. -/
theorem undefinedByteLatchesTheFault : Obligations.UndefinedByteLatchesTheFault := fun op =>
  ⟨fun hk => decode_eq_ok_iff.mpr ⟨rfl, by simpa [Instr.wellFormed] using hk⟩,
    fun s => congrFun (exec_undefined op) s⟩

/-- Settles O53: the framebuffer lists the reads of 1024 addresses in order. -/
theorem setPCAndFramebuffer : Obligations.SetPCAndFramebuffer := by
  intro s v
  refine ⟨rfl, by simp [hostFramebuffer], fun n hn => ?_⟩
  rw [hostFramebuffer, List.getElem?_map, List.getElem?_range hn, Option.map_some]

end Sys2Proof.Machine
end

section
/-! SUPPORT. The invariant right after reset, and the cycles an instruction adds: its base cost and what its handler charges
(41_addressing R95; 44_control R109; 70_reset R185). -/

namespace Sys2Proof.Machine

/-- The state right after reset has the invariant if its memory is canonical: nothing is latched or emitted
(70_reset R177, R178). -/
theorem State.Inv.powerOn {m : Memory} (hm : Memory.wf m = true) : (State.powerOn m).Inv where
  memory := hm
  latch := nofun
  events := nofun

/-- Every defined opcode costs at least two cycles (70_reset R186). -/
theorem two_le_opEntry_cycles {op : Byte} : (opEntry op).kind ≠ .undefined → 2 ≤ (opEntry op).cycles := by
  revert op
  decide

@[simp] theorem branchForm_cyc (flag : Flag) (want : Bool) (off : Byte) (e : OpEntry) (s : State) :
    (branchForm flag want off e s).state.cyc = s.cyc := by
  obtain ⟨v, h⟩ := branchForm_state flag want off e s
  rw [h, State.setPC_cyc]

/-- What a branch standing at PC charges beside its base cost (44_control R109). -/
theorem branchForm_extra (flag : Flag) (want : Bool) (off : Byte) (e : OpEntry) (s : State) :
    (branchForm flag want off e (s.setPC (s.pc + 1))).extra =
      if getFlag flag s.p = want then if pageChanges s.pc off then 2 else 1 else 0 := by
  rw [branchForm, State.setPC_p]
  split
  case isTrue =>
    rw [takeBranch_setPC]
    cases pageChanges s.pc off <;> rfl
  case isFalse => rfl

/-- An entry with the tag page_crossed charges the carry of an index added to the low byte of a word
(41_addressing R90, R95). -/
theorem pageCharge_crosses_loByte {e : OpEntry} (he : e.modifier = .pageCrossed) (w : Word) (index : Byte) :
    pageCharge e (crosses (loByte w) index) = crossNat w.toNat index.toNat := by
  rw [crosses_eq, pageCharge_crossNat he, toNat_loByte, crossNat_mod]

/-- IndirectY charges the carry of an index added to the low byte of the word at its pointer (41_addressing R94, R95). -/
theorem pageCharge_atIndirectY {e : OpEntry} (he : e.modifier = .pageCrossed) (z : Byte) (s : State) :
    pageCharge e (atIndirectY z s).2 = crossNat (pointerNat s z.toNat) s.y.toNat := by
  rw [atIndirectY, pageCharge_crosses_loByte he, toNat_zeroPagePointer z s (n := z.toNat) (by omega)]

/-- The handler of an implemented instruction leaves CYC to the end of the step and charges the carry of a tagged index
addition and a taken branch (70_reset R185). -/
theorem exists_handler_cyc_extra {i : Instr} (hwf : i.wellFormed = true) (hk : i.entry.kind = .implemented) (s : State) :
    ∃ handler, exec i s = runHandler i.opcode handler s ∧
      (handler i.entry (s.setPC (s.pc + 1))).state.cyc = s.cyc ∧
      (handler i.entry (s.setPC (s.pc + 1))).extra = crossCost i s + branchCost i s := by
  cases i
  case ldaAbsX w | andAbsX w =>
    exact ⟨readForm (atAbsoluteX w) _, rfl, rfl, pageCharge_crosses_loByte (by simp [Instr.entry]) w s.x⟩
  case ldaAbsY w | andAbsY w =>
    exact ⟨readForm (atAbsoluteY w) _, rfl, rfl, pageCharge_crosses_loByte (by simp [Instr.entry]) w s.y⟩
  case ldaIndY z | andIndY z =>
    exact ⟨readForm (atIndirectY z) _, rfl, rfl,
      pageCharge_atIndirectY (by simp [Instr.entry]) z (s.setPC (s.pc + 1))⟩
  case bpl off | bmi off | bvc off | bvs off | bcc off | bcs off | bne off | beq off =>
    exact ⟨branchForm _ _ off, rfl, by simp, (branchForm_extra _ _ off _ s).trans (Nat.zero_add _).symm⟩
  case brk => exact ⟨brkForm s.pc, rfl, enterTrap_cyc _ _ _, rfl⟩
  case ldaImm | ldaZp | ldaZpX | ldaAbs | ldaIndX | andImm | andZp | andZpX | andAbs | andIndX | aslZp | aslAcc |
      aslAbs | aslZpX | aslAbsX | inx | dex | tax | tay | txa | tya | tsx | txs | nop =>
    exact ⟨_, rfl, rfl, rfl⟩
  case undefined op =>
    have hu : (opEntry op).kind = .undefined := by simpa [Instr.wellFormed] using hwf
    simp [Instr.entry, hu] at hk
  -- the recognized but unimplemented opcodes
  all_goals simp [Instr.entry] at hk

/-- An unimplemented opcode is charged nothing beside its base cost, whatever its tag (45_nop_unimplemented R119). -/
theorem extraCosts_of_unimplemented {i : Instr} (hk : i.entry.kind = .unimplemented) (s : State) :
    crossCost i s = 0 ∧ branchCost i s = 0 := by
  constructor
  · unfold crossCost
    split
    case h_7 => rfl
    all_goals simp [Instr.entry] at hk
  · have hb : branchOf i = none := by
      unfold branchOf
      split
      case h_9 => rfl
      all_goals simp [Instr.entry] at hk
    rw [branchCost, hb]

/-- The cycles that a defined instruction adds to CYC (70_reset R185). -/
theorem exec_cyc {i : Instr} {s t : State} (hwf : i.wellFormed = true) (hk : i.entry.kind ≠ .undefined)
    (h : exec i s = .next t) : t.cyc = s.cyc + (i.entry.cycles + crossCost i s + branchCost i s) := by
  cases hkind : i.entry.kind with
  | undefined => exact absurd hkind hk
  | unimplemented =>
    obtain rfl := Host.Outcome.next.inj ((exec_eq_noop hwf hkind s).symm.trans h)
    obtain ⟨hcross, hbranch⟩ := extraCosts_of_unimplemented hkind s
    rw [hcross, hbranch]
    rfl
  | implemented =>
    obtain ⟨handler, he, hcyc, hextra⟩ := exists_handler_cyc_extra hwf hkind s
    rw [he] at h
    rw [runHandler_next h, finishStep_cyc, ← Instr.entry, hcyc, hextra, Nat.add_assoc i.entry.cycles]

end Sys2Proof.Machine
end

section
/-! SUPPORT. A step on a state with another cycle counter and other events: every part of it answers the same, with these
two put back (10_state R30; 60_exceptions R167). -/

namespace Sys2Proof.Machine

/-- The state with CYC and the events emitted so far replaced: what the core counts and tells, and never reads. -/
def State.withOutputs (s : State) (c : Nat) (d : List OpAt) : State := { s with cyc := c, diag := d }

/-- What a handler leaves, with CYC and the events replaced. -/
def Effect.withOutputs (r : Effect) (c : Nat) (d : List OpAt) : Effect := { r with state := r.state.withOutputs c d }

section
variable (s : State) (c : Nat) (d : List OpAt)

@[simp] theorem State.withOutputs_mem : (s.withOutputs c d).mem = s.mem := rfl
@[simp] theorem State.withOutputs_pc : (s.withOutputs c d).pc = s.pc := rfl
@[simp] theorem State.withOutputs_fault : (s.withOutputs c d).fault = s.fault := rfl

theorem resolve_withOutputs (mode : Mode) : resolve mode (s.withOutputs c d) = resolve mode s := by
  cases mode <;> rfl

theorem load_withOutputs (l : Location) : load l (s.withOutputs c d) = load l s := by
  cases l <;> rfl

theorem State.writeKey_withOutputs (key : Option Byte) :
    (s.withOutputs c d).writeKey key = (s.writeKey key).withOutputs c d := by
  cases key <;> rfl

theorem aslWork_withOutputs (l : Location) : aslWork l (s.withOutputs c d) = (aslWork l s).withOutputs c d := by
  cases l <;> rfl

theorem readAsWritten_withOutputs {work : Byte → State → State} (e : OpEntry)
    (hwork : ∀ v, work v (s.withOutputs c d) = (work v s).withOutputs c d) :
    readAsWritten work e (s.withOutputs c d) = (readAsWritten work e s).withOutputs c d := by
  rw [readAsWritten, readAsWritten, resolve_withOutputs]
  split
  · rw [load_withOutputs, hwork]
    rfl
  · rfl

theorem modifyAsWritten_withOutputs (e : OpEntry) :
    modifyAsWritten aslWork e (s.withOutputs c d) = (modifyAsWritten aslWork e s).withOutputs c d := by
  rw [modifyAsWritten, modifyAsWritten, resolve_withOutputs]
  split
  · rw [aslWork_withOutputs]
    rfl
  · rfl

theorem branchAsWritten_withOutputs (flag : Flag) (want : Bool) :
    branchAsWritten flag want (s.withOutputs c d) = (branchAsWritten flag want s).withOutputs c d := by
  rw [branchAsWritten, branchAsWritten, apply_ite (Effect.withOutputs · c d)]
  rfl

/-- No handler reads CYC or the events, or writes them. -/
theorem executeAsWritten_withOutputs (e : OpEntry) (opaddr : Word) :
    executeAsWritten e opaddr (s.withOutputs c d) = (executeAsWritten e opaddr s).withOutputs c d := by
  rw [executeAsWritten, executeAsWritten]
  cases e.mnemonic with
  | lda | and => exact readAsWritten_withOutputs s c d e fun _ => rfl
  | asl => exact modifyAsWritten_withOutputs s c d e
  | bpl | bmi | bvc | bvs | bcc | bcs | bne | beq => exact branchAsWritten_withOutputs s c d _ _
  | _ => rfl

/-- The end of a step adds to CYC what it adds to any other value of it. -/
theorem finishStep_withOutputs (e : OpEntry) (r : Effect) :
    finishStep e (r.withOutputs c d) = (finishStep e r).withOutputs (c + (e.cycles + r.extra)) d := by
  obtain ⟨state, moved, extra⟩ := r
  cases moved <;> rfl

end

/-- The step of the pseudocode on a state with other outputs (40_execution R65): the same one of its three ends, with
outputs of its own. -/
theorem stepAsWritten_withOutputs {key : Option Byte} {s t : State} (c : Nat) (d : List OpAt)
    (h : stepAsWritten key s = .next t) :
    ∃ c' d', stepAsWritten key (s.withOutputs c d) = .next (t.withOutputs c' d') := by
  cases hf : s.fault with
  | some f => simp [stepAsWritten, hf] at h
  | none =>
    simp only [stepAsWritten, hf, State.withOutputs_fault, State.writeKey_withOutputs, State.withOutputs_mem,
      State.withOutputs_pc] at h ⊢
    generalize s.writeKey key = s1 at h ⊢
    generalize opEntry (Memory.read s1.mem s1.pc) = e at h ⊢
    cases hk : e.kind with
    | undefined | unimplemented =>
      rw [hk] at h
      obtain rfl := Host.Outcome.next.inj h
      exact ⟨_, _, rfl⟩
    | implemented =>
      rw [hk] at h
      obtain rfl := Host.Outcome.next.inj h
      have hend := finishStep_withOutputs c d e (executeAsWritten e s1.pc (s1.setPC (s1.pc + 1)))
      rw [← executeAsWritten_withOutputs] at hend
      exact ⟨_, _, congrArg Host.Outcome.next hend⟩

end Sys2Proof.Machine
end

section
/-! PROOFS. The statements on Reset, the cycles and what they influence (70_reset_and_hazards). -/

namespace Sys2Proof.Machine

/-- Settles O48: a defined instruction adds its base cost and charges, an undefined byte nothing. -/
theorem cyclesAreCharged : Obligations.CyclesAreCharged := by
  intro i s t hwf h
  by_cases hk : i.entry.kind = .undefined
  · obtain ⟨op, rfl, rfl⟩ | ⟨hdef, -⟩ := exec_next_cases h
    · exact ⟨by rw [costOf, if_pos hk]; rfl, absurd hk⟩
    · exact absurd hk hdef
  · have hbase : 2 ≤ i.entry.cycles := two_le_opEntry_cycles hk
    have hcyc := exec_cyc hwf hk h
    exact ⟨by rw [costOf, if_neg hk, hcyc], fun _ => by omega⟩

/-- Settles O49: the step is that of the pseudocode, no part of which reads the two outputs. -/
theorem cyclesAndEventsInfluenceNothing : Obligations.CyclesAndEventsInfluenceNothing := by
  intro s t c d h
  rw [step, stepIsTheStepAsWritten] at h
  obtain ⟨c', d', h'⟩ := stepAsWritten_withOutputs c d h
  exact ⟨c', d', (stepIsTheStepAsWritten _ _).trans h'⟩

/-- Settles O1: the reset values and the word at the reset vector. -/
theorem resetPutsEveryRegister : Obligations.ResetPutsEveryRegister := fun _ => rfl

/-- Settles O2: P is 0x00, so B and I are 0, and a push at 0x01FF is read back there. -/
theorem resetStateRuns : Obligations.ResetStateRuns := by
  intro m s
  have hp : s.p = 0x00 := rfl
  have hsp : s.sp = 0x01FF := rfl
  refine ⟨rfl, by rw [State.halted, hp]; rfl, rfl, by rw [hp]; rfl, hsp, rfl, fun v => ?_, rfl, rfl, rfl⟩
  rw [State.push_mem, hsp, Memory.read_write, if_pos rfl]

/-- Settles O3: a power-on in canonical form has the invariant, and State.reset is the one with nothing listed. -/
theorem invariantHoldsAtReset : Obligations.InvariantHoldsAtReset :=
  ⟨.powerOn Memory.wf_nil, fun _ => .powerOn⟩

end Sys2Proof.Machine
end
